-- ==== Sys2Proof/Word.lean ====
section
/-! DEFINITION. The widths the block's words have (spec/10_state.md, spec/30_encoding.md R66 and R67). -/

namespace Sys2Proof

/-- An IEEE 754 binary64 bit pattern (30_encoding.md R66). -/
abbrev F64 := BitVec 64

/-- The 8-bit step selector SEL (30_encoding.md R67). -/
abbrev Sel := BitVec 8

/-- A completed Raw Word (30_encoding.md R64). -/
abbrev Raw := BitVec 24

end Sys2Proof
end

