-- ==== Sys2Proof/Config.lean ====
section
/-! DEFINITION. The configuration record (spec/00_scope.md R6 to R10, spec/10_state.md R30), the input ports
(10_state.md R31), and the free values: what the spec leaves open, as constants with no body. -/

namespace Sys2Proof

/-- The static configuration `cfg` (00_scope.md section 4). A record may hold illegal values; `Config.legal`
(WellFormed.lean) says which are a configuration of this hardware (R11). -/
structure Config where
  /-- THRESHOLD (R6): a pulse of at least this many ticks is a marker. -/
  threshold : Nat
  /-- WORD_BITS (R7): data bits per word. -/
  wordBits : Nat
  /-- MAX_DOUBLINGS (R8): the safety bound on bit-weight doublings in one word. -/
  maxDoublings : Nat
  /-- SCALE (R9): millimetres per raw increment. -/
  scale : F64
  /-- CW (R10): the width of DUR. -/
  cw : Nat
deriving DecidableEq, Repr

/-- The default configuration (00_scope.md, summary table of section 4). -/
def Config.default : Config :=
  ⟨50, 24, 28, 0x3F5451E6D28776D7#64, 16⟩

/-- SCALE_EXACT, the other scale constant the spec names (R9, 90_conflicts.md C2). -/
def Config.scaleExact : F64 := 0x3F5451EB851EB852#64

/-- The levels of the input ports `rst`, `tick`, `clk_in`, `data_in` at one rising edge of `clk`
(10_state.md R31); `true` is 1. -/
structure Pins where
  rst : Bool
  tick : Bool
  clkIn : Bool
  dataIn : Bool
deriving DecidableEq, Repr, Inhabited

/-- FREE VALUE (log 2): the port levels at edge `n` when the stimulus written down says nothing about it. The
environment is under no law (00_scope.md R12, 20_memory.md R43), so nothing constrains them. -/
opaque Config.freePins : Nat → Pins

/-- FREE VALUE (log 6): the binary64 product where 42_value_converter.md R103 states none (an operand that is neither
zero nor normal, or a result out of the normal range). No legal configuration reaches it (R108). -/
opaque Config.freeProduct : F64 → F64 → F64

/-- FREE VALUE (log 6): the conversion of an integer of magnitude above 2^53, for which R102 states none. No value of
`sint24` reaches it. -/
opaque Config.freeInteger : Int → F64

end Sys2Proof
end

