-- ==== Sys2Proof/Machine/Binary64.lean ====
section
/-! DEFINITION. The binary64 arithmetic of the Value Converter (spec/30_encoding.md R66, spec/42_value_converter.md R101 to
R105), in exact integers, rounded explicitly at the end. -/

namespace Sys2Proof.Machine

/-- Bit 63, the sign (R66). -/
def f64Sign (a : F64) : Bool := a.getLsbD 63

/-- Bits 62:52, the biased exponent (R66). -/
def f64Exp (a : F64) : Nat := (a.extractLsb' 52 11).toNat

/-- Bits 51:0, the fraction (R66). -/
def f64Frac (a : F64) : Nat := (a.extractLsb' 0 52).toNat

/-- +0 or -0: exponent field 0, fraction 0 (R66). -/
def f64IsZero (a : F64) : Bool := f64Exp a == 0 && f64Frac a == 0

/-- A normal number: exponent field 1 to 2046 (R66). -/
def f64IsNormal (a : F64) : Bool := decide (1 ≤ f64Exp a) && decide (f64Exp a ≤ 2046)

/-- The significand of a normal number as an integer: (1 + fraction / 2^52) * 2^52. The number is then
significand * 2^(exponent field - 1075), with its sign (R66). -/
def f64Significand (a : F64) : Nat := 2 ^ 52 + f64Frac a

/-- A binary64 pattern from its three fields (R66). -/
def f64Pack (sign : Bool) (expField frac : Nat) : F64 :=
  BitVec.ofBool sign ++ BitVec.ofNat 11 expField ++ BitVec.ofNat 52 frac

/-- `m / 2^sh` rounded to the nearest integer, ties to the even one (R103). -/
def roundEven (m sh : Nat) : Nat :=
  let q := m / 2 ^ sh
  let r := m % 2 ^ sh
  if 2 ^ sh < 2 * r ∨ (2 * r = 2 ^ sh ∧ q % 2 = 1) then q + 1 else q

/-- The magnitude `m * 2^k`, `m > 0`, as a significand of 53 bits and an exponent `e`, rounded to nearest, ties to even:
with e = floor(log2 (m * 2^k)) and u = 2^(e - 52), the multiple of u nearest to it (R103). The first component is that
multiple over u; 2^53 is taken as 2^52 at the next exponent. -/
def roundMagnitude (m : Nat) (k : Int) : Nat × Int :=
  let n := m.log2
  let q := if n ≤ 52 then m * 2 ^ (52 - n) else roundEven m (n - 52)
  if q = 2 ^ 53 then (2 ^ 52, n + k + 1) else (q, n + k)

/-- The binary64 number nearest to (-1)^sign * m * 2^k, `m > 0`, where it is normal; `none` where it is not. -/
def roundToF64 (sign : Bool) (m : Nat) (k : Int) : Option F64 :=
  let r := roundMagnitude m k
  if -1022 ≤ r.2 ∧ r.2 ≤ 1023 then some (f64Pack sign (r.2 + 1023).toNat (r.1 - 2 ^ 52)) else none

/-- `sint24`: the two's-complement reading of a 24-bit field (R101). -/
def sint24 (v : Raw) : Int :=
  if v.getLsbD 23 then (v.toNat : Int) - 2 ^ 24 else v.toNat

/-- `i2f(s)`: the binary64 number whose value is exactly `s`, for |s| <= 2^53 (R102); free beyond (log 6). -/
def i2f (s : Int) : F64 :=
  if s = 0 then 0#64
  else if s.natAbs ≤ 2 ^ 53 then
    match roundToF64 (decide (s < 0)) s.natAbs 0 with
    | some f => f
    | none => Config.freeInteger s
  else Config.freeInteger s

/-- `fmul(a, b)`: the binary64 product of two numbers that are zero or normal, rounded to nearest, ties to even (R103);
free where R103 states none (log 6). -/
def fmul (a b : F64) : F64 :=
  if (f64IsZero a && (f64IsZero b || f64IsNormal b)) || (f64IsNormal a && f64IsZero b) then
    f64Pack (f64Sign a != f64Sign b) 0 0
  else if f64IsNormal a && f64IsNormal b then
    match roundToF64 (f64Sign a != f64Sign b) (f64Significand a * f64Significand b)
        ((f64Exp a : Int) - 1075 + ((f64Exp b : Int) - 1075)) with
    | some f => f
    | none => Config.freeProduct a b
  else Config.freeProduct a b

/-- `fneg(a)`: bit 63 inverted (R104). -/
def fneg (a : F64) : F64 := a ^^^ 0x8000000000000000#64

/-- `mm(raw)`: the millimetre value of a Raw Word at scale constant `scale` (R105). -/
def mm (scale : F64) (raw : Raw) : F64 := fmul (i2f (sint24 raw)) scale

end Sys2Proof.Machine
end

