-- ==== Sys2Proof/Syntax.lean ====
section
/-! DEFINITION. The 22 step operations, one constructor for each row of spec/opcode_table.json (30_encoding.md R69, R70),
the four guards that refine their selection (R68), the protocol errors and the output events. -/

namespace Sys2Proof

/-- A step operation. The one operand in the table is the data level `d` of BIT.SAMPLE.OK (30_encoding.md R74). -/
inductive Instr where
  /-- RESET (70_reset_and_hazards.md R141). -/
  | reset
  /-- HOLD (43_frame_orchestration.md R113). -/
  | hold
  /-- SYNC.ARM.HOLD (40_frame_synchronizer.md R81). -/
  | syncArmHold
  /-- SYNC.ARM.GO (R82). -/
  | syncArmGo
  /-- SYNC.WAIT.HOLD (R83). -/
  | syncWaitHold
  /-- SYNC.WAIT.RISE (R84). -/
  | syncWaitRise
  /-- SYNC.MEAS.COUNT (R85). -/
  | syncMeasCount
  /-- SYNC.MEAS.ACCEPT (R86). -/
  | syncMeasAccept
  /-- SYNC.MEAS.SHORT (R87). -/
  | syncMeasShort
  /-- BIT.SAMPLE.OK with the sampled data level (41_word_receiver.md R90). -/
  | bitSampleOk (d : Bool)
  /-- BIT.SAMPLE.GLITCH (R91). -/
  | bitSampleGlitch
  /-- BIT.WAIT.HOLD (R92). -/
  | bitWaitHold
  /-- BIT.WAIT.RISE (R93). -/
  | bitWaitRise
  /-- BIT.MEAS.COUNT (R94). -/
  | bitMeasCount
  /-- BIT.MEAS.NEXT (R95). -/
  | bitMeasNext
  /-- BIT.MEAS.BOUND (R96). -/
  | bitMeasBound
  /-- BIT.MEAS.WORD0 (R97). -/
  | bitMeasWord0
  /-- BIT.MEAS.WORD1 (R98). -/
  | bitMeasWord1
  /-- BIT.MEAS.BADLEN (R99). -/
  | bitMeasBadlen
  /-- CONVERT (42_value_converter.md R106). -/
  | convert
  /-- EMIT (43_frame_orchestration.md R111). -/
  | emit
  /-- DISCARD (R112). -/
  | discard
deriving DecidableEq, Repr

/-- The values of the four guards of 30_encoding.md R68 at one edge. -/
structure Guards where
  /-- MARK: DUR >= THRESHOLD. -/
  mark : Bool
  /-- LEN: WEIGHT = 2^WORD_BITS. -/
  len : Bool
  /-- BOUND: WEIGHT = 2^MAX_DOUBLINGS. -/
  bound : Bool
  /-- W0: WIDX = 0. -/
  w0 : Bool
deriving DecidableEq, Repr

/-- The three protocol errors (60_exceptions.md R119). -/
inductive ProtocolError where
  | startPulseTooShort
  | clockGlitch
  | wordLengthMismatch
deriving DecidableEq, Repr

/-- The two kinds of output event (20_memory.md R47). -/
inductive Event where
  /-- `Emit(raw0, raw1, meas0, meas1)`. -/
  | emit (raw0 raw1 : Raw) (meas0 meas1 : F64)
  /-- `Discard(err)`. -/
  | discard (err : BitVec 3)
deriving DecidableEq, Repr

/-- The six states of the source document (10_state.md R16, 43_frame_orchestration.md R110). -/
inductive DocState where
  | syncing
  | receivingWord0
  | receivingWord1
  | converting
  | emit
  | discard
deriving DecidableEq, Repr

end Sys2Proof
end

