-- ==== Sys2Proof/Machine/State.lean ====
section
/-! DEFINITION. The machine's state: the block's ten registers (spec/10_state.md), its configuration, and the model's own
fields for what is outside the block; the reasons a step can stop; the state after reset. -/

namespace Sys2Proof.Machine

/-- The registers of the block: all the state it has (10_state.md R28). ACC, WEIGHT and DUR have widths that depend on the
configuration; each is held in the width of its largest legal setting and cut to its configured width at every write
(log 5). -/
structure Regs where
  /-- STATE, the control state (R15). -/
  state : BitVec 4
  /-- WIDX, the index of the word being received (R21). -/
  widx : BitVec 1
  /-- ACC, the Raw Word under construction, MAX_DOUBLINGS bits (R17). -/
  acc : BitVec 63
  /-- WEIGHT, the bit-weight, MAX_DOUBLINGS + 1 bits (R18). -/
  weight : BitVec 64
  /-- DUR, the Pulse Duration, CW bits (R20). -/
  dur : BitVec 32
  /-- RAW0 (R22). -/
  raw0 : Raw
  /-- RAW1 (R23). -/
  raw1 : Raw
  /-- ERR, the Error Set (R24). -/
  err : BitVec 3
  /-- MEAS0 (R25). -/
  meas0 : F64
  /-- MEAS1 (R26). -/
  meas1 : F64
deriving DecidableEq, Repr

/-- The reset values of the registers, `RESET_STATE` (10_state.md R33). -/
def Regs.reset : Regs :=
  { state := 0#4, widx := 0#1, acc := 0#63, weight := 1#64, dur := 0#32, raw0 := 0#24, raw1 := 0#24, err := 0#3,
    meas0 := 0#64, meas1 := 0#64 }

/-- An event the block has delivered, with the index of the tick that produced it (00_scope.md R13). -/
structure Emission where
  tick : Nat
  event : Event
deriving DecidableEq, Repr

/-- The machine: the block's registers, its configuration, and what is outside it. -/
structure State where
  /-- The static configuration (10_state.md R30); no operation writes it (log 1). -/
  cfg : Config
  /-- The block's registers. -/
  regs : Regs
  /-- MODEL'S OWN: the port levels of the coming edges, next one first (20_memory.md R43; log 2). -/
  stimulus : List Pins
  /-- MODEL'S OWN: how many edges have passed; the argument of the free port levels (log 2). -/
  edge : Nat
  /-- MODEL'S OWN: how many ticks have passed; the index R13 gives the next tick (log 4). -/
  tickNo : Nat
  /-- MODEL'S OWN: the events delivered so far, oldest first (20_memory.md R47; log 4). -/
  events : List Emission
deriving DecidableEq, Repr

/-- The reasons the machine can stop with a fault: none. The three protocol errors are handled by the block, which goes on
in a defined state (60_exceptions.md, opening, and R131). Nothing raises a fault. -/
inductive Fault where
deriving DecidableEq, Repr

/-- The reasons a step has no meaning. -/
inductive Refusal where
  /-- Raised by an arm of `exec` whose operation has no meaning yet. Safe: nothing is claimed of it. No arm raises it. -/
  | notModelled (mnemonic : String)
  /-- Raised by `step` when the configuration is illegal (00_scope.md R11: a model refuses it). Safe. -/
  | illegalConfiguration
  /-- Raised by `step` at a tick in a control state whose code is 9 to 15 (10_state.md R15, 30_encoding.md R72: a model
  refuses it). Safe; no run reaches it (10_state.md R40). -/
  | unusedStateCode (code : BitVec 4)
deriving DecidableEq, Repr

/-- The machine right after reset: every register at its reset value (10_state.md R33), the default configuration
(00_scope.md R6 to R10; log 1), no stimulus written down, nothing delivered (log 2, log 4). -/
def State.reset : State :=
  { cfg := Config.default, regs := Regs.reset, stimulus := [], edge := 0, tickNo := 0, events := [] }

end Sys2Proof.Machine
end

