-- ==== Sys2Proof/Machine/Flags.lean ====
section
/-! DEFINITION. The Error Set's codes (spec/60_exceptions.md R119) and the four guards (spec/30_encoding.md R68): every flag
and every condition the block computes (10_state.md R24: there are no others). -/

namespace Sys2Proof.Machine

/-- The code of an error: its bit in ERR (60_exceptions.md R119, 10_state.md R24). -/
def errCode : ProtocolError → BitVec 3
  | .startPulseTooShort => 0b001#3
  | .clockGlitch => 0b010#3
  | .wordLengthMismatch => 0b100#3

/-- MARK: DUR >= THRESHOLD (30_encoding.md R68, 90_conflicts.md C1). -/
def State.mark (s : State) : Bool := decide (s.cfg.threshold ≤ s.regs.dur.toNat)

/-- LEN: WEIGHT = 2^WORD_BITS (R68). -/
def State.len (s : State) : Bool := decide (s.regs.weight.toNat = 2 ^ s.cfg.wordBits)

/-- BOUND: WEIGHT = 2^MAX_DOUBLINGS (R68). -/
def State.bound (s : State) : Bool := decide (s.regs.weight.toNat = 2 ^ s.cfg.maxDoublings)

/-- W0: WIDX = 0 (R68). -/
def State.w0 (s : State) : Bool := decide (s.regs.widx = 0#1)

/-- The four guards at this edge (R68). -/
def State.guards (s : State) : Guards := ⟨s.mark, s.len, s.bound, s.w0⟩

end Sys2Proof.Machine
end

