-- ==== Sys2Proof/WellFormed.lean ====
section
/-! DEFINITION. What is well formed: the operations (every term is, 30_encoding.md R74 and R80) and the configuration
(spec/00_scope.md R6 to R11). -/

namespace Sys2Proof

/-- Is the operation well formed? No operation has an operand with an illegal value: the only operand is one line level,
and both levels are legal (30_encoding.md R64, R74, R80). -/
def Instr.wf : Instr → Bool
  | .reset | .hold | .syncArmHold | .syncArmGo | .syncWaitHold | .syncWaitRise | .syncMeasCount | .syncMeasAccept
  | .syncMeasShort | .bitSampleGlitch | .bitWaitHold | .bitWaitRise | .bitMeasCount | .bitMeasNext | .bitMeasBound
  | .bitMeasWord0 | .bitMeasWord1 | .bitMeasBadlen | .convert | .emit | .discard => true
  | .bitSampleOk _ => true

/-- THRESHOLD is legal: 2 <= THRESHOLD <= 2^CW - 1 (00_scope.md R6). -/
def Config.thresholdLegal (c : Config) : Bool := decide (2 ≤ c.threshold) && decide (c.threshold ≤ 2 ^ c.cw - 1)

/-- WORD_BITS is legal: 24 only (R7). -/
def Config.wordBitsLegal (c : Config) : Bool := decide (c.wordBits = 24)

/-- MAX_DOUBLINGS is legal: 25 to 63 (R8). -/
def Config.maxDoublingsLegal (c : Config) : Bool := decide (25 ≤ c.maxDoublings) && decide (c.maxDoublings ≤ 63)

/-- SCALE is legal: a positive normal binary64 number smaller than 2^1001 (R9). The exponent field of 2^1001 is
1001 + 1023 = 2024 (30_encoding.md R66). -/
def Config.scaleLegal (c : Config) : Bool :=
  !c.scale.getLsbD 63 && decide (1 ≤ (c.scale.extractLsb' 52 11).toNat) && decide ((c.scale.extractLsb' 52 11).toNat < 2024)

/-- CW is legal: 2 to 32 (R10). -/
def Config.cwLegal (c : Config) : Bool := decide (2 ≤ c.cw) && decide (c.cw ≤ 32)

/-- A configuration of this hardware (R11). -/
def Config.legal (c : Config) : Bool :=
  c.cwLegal && c.thresholdLegal && c.wordBitsLegal && c.maxDoublingsLegal && c.scaleLegal

end Sys2Proof
end

