-- ==== Sys2Proof/Decode.lean ====
section
/-! DEFINITION. The step selector (spec/30_encoding.md R67), the decoder of operations (R69, R71, R72), and after it the
encoder and the opcode table as match, mask and guard (R70; spec/opcode_table.json). -/

namespace Sys2Proof

/-- SEL = r ssss t c d: the selector of an edge with port levels `p` in control state `st` (R67). -/
def selector (p : Pins) (st : BitVec 4) : Sel :=
  BitVec.ofBool p.rst ++ st ++ BitVec.ofBool p.tick ++ BitVec.ofBool p.clkIn ++ BitVec.ofBool p.dataIn

/-- Bit 7 of SEL, `r`: the `rst` port (R67). -/
def selRst (w : Sel) : Bool := w.getLsbD 7

/-- Bits 6:3 of SEL, `ssss`: STATE before the edge (R67). -/
def selState (w : Sel) : BitVec 4 := w.extractLsb' 3 4

/-- Bit 2 of SEL, `t`: the `tick` port (R67). -/
def selTick (w : Sel) : Bool := w.getLsbD 2

/-- Bit 1 of SEL, `c`: the sampled clock-line level (R67). -/
def selClk (w : Sel) : Bool := w.getLsbD 1

/-- Bit 0 of SEL, `d`: the sampled data-line level (R67). -/
def selData (w : Sel) : Bool := w.getLsbD 0

/-- Why a selector has no operation. -/
inductive Reject where
  /-- A tick in a control state whose code is 9 to 15: no row of the table (30_encoding.md R72). -/
  | unusedStateCode (code : BitVec 4)
deriving DecidableEq, Repr

/-- The operation of S_BIT_MEAS with the clock sampled low, by the guards (30_encoding.md R69; the order of evaluation of
60_exceptions.md R128: MARK, then LEN or BOUND, then W0). -/
def decodePulseEnd (g : Guards) : Instr :=
  if g.mark then
    if g.len then
      if g.w0 then .bitMeasWord0 else .bitMeasWord1
    else .bitMeasBadlen
  else if g.bound then .bitMeasBound else .bitMeasNext

/-- The operation of a tick in control state `st` (30_encoding.md R69, R72). -/
def decodeTick (st : BitVec 4) (c d : Bool) (g : Guards) : Except Reject Instr :=
  match st.toNat with
  | 0 => .ok (if c then .syncArmHold else .syncArmGo)
  | 1 => .ok (if c then .syncWaitRise else .syncWaitHold)
  | 2 => .ok (if c then .syncMeasCount else if g.mark then .syncMeasAccept else .syncMeasShort)
  | 3 => .ok (if c then .bitSampleGlitch else .bitSampleOk d)
  | 4 => .ok (if c then .bitWaitRise else .bitWaitHold)
  | 5 => .ok (if c then .bitMeasCount else decodePulseEnd g)
  | 6 => .ok .convert
  | 7 => .ok .emit
  | 8 => .ok .discard
  | _ => .error (.unusedStateCode st)

/-- The operation of a clock edge: `rst` first, then `tick`, then the control state (30_encoding.md R71, 60_exceptions.md
R128). Total on the 256 selector values; a tick in an unused state code is rejected by name. -/
def decode (w : Sel) (g : Guards) : Except Reject Instr :=
  if selRst w then .ok .reset
  else if selTick w then decodeTick (selState w) (selClk w) (selData w) g
  else .ok .hold

/-- "match" of the operation's row (spec/opcode_table.json, R70). -/
def Instr.rowMatch : Instr → Sel
  | .reset => 0x80#8
  | .hold => 0x00#8
  | .syncArmHold => 0x06#8
  | .syncArmGo => 0x04#8
  | .syncWaitHold => 0x0C#8
  | .syncWaitRise => 0x0E#8
  | .syncMeasCount => 0x16#8
  | .syncMeasAccept => 0x14#8
  | .syncMeasShort => 0x14#8
  | .bitSampleOk _ => 0x1C#8
  | .bitSampleGlitch => 0x1E#8
  | .bitWaitHold => 0x24#8
  | .bitWaitRise => 0x26#8
  | .bitMeasCount => 0x2E#8
  | .bitMeasNext => 0x2C#8
  | .bitMeasBound => 0x2C#8
  | .bitMeasWord0 => 0x2C#8
  | .bitMeasWord1 => 0x2C#8
  | .bitMeasBadlen => 0x2C#8
  | .convert => 0x34#8
  | .emit => 0x3C#8
  | .discard => 0x44#8

/-- "mask" of the operation's row (spec/opcode_table.json, R70). -/
def Instr.rowMask : Instr → Sel
  | .reset => 0x80#8
  | .hold => 0x84#8
  | .convert | .emit | .discard => 0xFC#8
  | .syncArmHold | .syncArmGo | .syncWaitHold | .syncWaitRise | .syncMeasCount | .syncMeasAccept | .syncMeasShort
  | .bitSampleOk _ | .bitSampleGlitch | .bitWaitHold | .bitWaitRise | .bitMeasCount | .bitMeasNext | .bitMeasBound
  | .bitMeasWord0 | .bitMeasWord1 | .bitMeasBadlen => 0xFE#8

/-- "guard" of the operation's row (spec/opcode_table.json, R68, R70); an absent guard always holds. -/
def Instr.rowGuard (i : Instr) (g : Guards) : Bool :=
  match i with
  | .syncMeasAccept => g.mark
  | .syncMeasShort => !g.mark
  | .bitMeasNext => !g.mark && !g.bound
  | .bitMeasBound => !g.mark && g.bound
  | .bitMeasWord0 => g.mark && g.len && g.w0
  | .bitMeasWord1 => g.mark && g.len && !g.w0
  | .bitMeasBadlen => g.mark && !g.len
  | .reset | .hold | .syncArmHold | .syncArmGo | .syncWaitHold | .syncWaitRise | .syncMeasCount | .bitSampleOk _
  | .bitSampleGlitch | .bitWaitHold | .bitWaitRise | .bitMeasCount | .convert | .emit | .discard => true

/-- The bits of SEL that hold an operand: the letter `d` of the pattern string (R67). -/
def Instr.operandMask : Instr → Sel
  | .bitSampleOk _ => 0x01#8
  | .reset | .hold | .syncArmHold | .syncArmGo | .syncWaitHold | .syncWaitRise | .syncMeasCount | .syncMeasAccept
  | .syncMeasShort | .bitSampleGlitch | .bitWaitHold | .bitWaitRise | .bitMeasCount | .bitMeasNext | .bitMeasBound
  | .bitMeasWord0 | .bitMeasWord1 | .bitMeasBadlen | .convert | .emit | .discard => 0x00#8

/-- The operand's bits, in their place. -/
def Instr.operandBits : Instr → Sel
  | .bitSampleOk d => if d then 0x01#8 else 0x00#8
  | .reset | .hold | .syncArmHold | .syncArmGo | .syncWaitHold | .syncWaitRise | .syncMeasCount | .syncMeasAccept
  | .syncMeasShort | .bitSampleGlitch | .bitWaitHold | .bitWaitRise | .bitMeasCount | .bitMeasNext | .bitMeasBound
  | .bitMeasWord0 | .bitMeasWord1 | .bitMeasBadlen | .convert | .emit | .discard => 0x00#8

/-- The bits of SEL the operation ignores: the letter `x` of the pattern string (R67, R74). -/
def Instr.ignoredMask (i : Instr) : Sel := ~~~(i.rowMask ||| i.operandMask)

/-- The encoder: the selector of an operation with every ignored bit 0 (log 10). -/
def encode (i : Instr) : Sel := i.rowMatch ||| i.operandBits

/-- The row of `i` accepts selector `w` under guards `g`: SEL & mask = match, the guard holds (R70) and the operand is the
one in the word. -/
def Instr.accepts (i : Instr) (w : Sel) (g : Guards) : Prop :=
  w &&& i.rowMask = i.rowMatch ∧ i.rowGuard g = true ∧ w &&& i.operandMask = i.operandBits

/-- The guards as the registers give them right after reset (10_state.md R33 in 30_encoding.md R68: DUR = 0, WEIGHT = 1,
WIDX = 0). -/
def Guards.atReset : Guards := ⟨false, false, false, true⟩

/-- The port levels a selector holds (R67). -/
def selPins (w : Sel) : Pins := ⟨selRst w, selTick w, selClk w, selData w⟩

/-- What the decoder reads from an opcode-table word. SEL alone does not select where the table has a guard (R68): the
guards are taken as they are right after reset (log 3). A word that is not one 8-bit SEL has no operation. -/
def decodeTableWord (nbits w : Nat) : Option Instr :=
  if nbits = 8 ∧ w < 256 then
    match decode (BitVec.ofNat 8 w) Guards.atReset with
    | .ok i => some i
    | .error _ => none
  else none

end Sys2Proof
end

