-- ==== Sys2Proof/Machine/Operands.lean ====
section
/-! DEFINITION. Where an operation's operands come from: the codes of the control states (spec/10_state.md R15), the port
levels of the edge and the line sample (spec/20_memory.md R43), the selector of the edge (spec/30_encoding.md R67), and the
low 24 bits of ACC. -/

namespace Sys2Proof.Machine

/-- S_SYNC_ARM: waits until the clock line is sampled low (10_state.md R15). -/
abbrev sSyncArm : BitVec 4 := 0#4
/-- S_SYNC_WAIT: waits until the clock line is sampled high. -/
abbrev sSyncWait : BitVec 4 := 1#4
/-- S_SYNC_MEAS: counts the candidate start pulse. -/
abbrev sSyncMeas : BitVec 4 := 2#4
/-- S_BIT_SAMPLE: samples the data bit. -/
abbrev sBitSample : BitVec 4 := 3#4
/-- S_BIT_WAIT: waits until the clock line is sampled high. -/
abbrev sBitWait : BitVec 4 := 4#4
/-- S_BIT_MEAS: counts the pulse. -/
abbrev sBitMeas : BitVec 4 := 5#4
/-- S_CONVERT: computes the two measurements. -/
abbrev sConvert : BitVec 4 := 6#4
/-- S_EMIT: delivers the Emit event. -/
abbrev sEmit : BitVec 4 := 7#4
/-- S_DISCARD: delivers the Discard event. -/
abbrev sDiscard : BitVec 4 := 8#4

/-- The port levels at the coming edge: the next entry of the stimulus, or free levels when none is written down
(20_memory.md R43; log 2). -/
def State.pins (s : State) : Pins :=
  match s.stimulus with
  | p :: _ => p
  | [] => Config.freePins s.edge

/-- `Sample()`: the levels (c, d) of the clock line and the data line at the coming edge (20_memory.md R43, R44). -/
def State.sample (s : State) : Bool × Bool := (s.pins.clkIn, s.pins.dataIn)

/-- SEL at the coming edge (30_encoding.md R67). -/
def State.sel (s : State) : Sel := selector s.pins s.regs.state

/-- `ACC[23:0]` (41_word_receiver.md R97). -/
def lowWord (acc : BitVec 63) : Raw := acc.extractLsb' 0 24

end Sys2Proof.Machine
end

