-- ==== Sys2Proof/Machine/Ops.lean ====
section
/-! DEFINITION. The named operations over the registers: one write for each register, the start of a word, taking a protocol
error and the return from it (spec/60_exceptions.md R124, R126), the delivery of an event (spec/20_memory.md R47), and the
end of an edge. A register write keeps the low bits the register has room for (spec/10_state.md; log 5). -/

namespace Sys2Proof.Machine

/-- `STATE <- v` (10_state.md R15). -/
def State.setState (s : State) (v : BitVec 4) : State := { s with regs := { s.regs with state := v } }

/-- `WIDX <- v` (R21). -/
def State.setWidx (s : State) (v : BitVec 1) : State := { s with regs := { s.regs with widx := v } }

/-- `ACC <- v`, MAX_DOUBLINGS bits (R17). -/
def State.setAcc (s : State) (v : Nat) : State :=
  { s with regs := { s.regs with acc := BitVec.ofNat 63 (v % 2 ^ s.cfg.maxDoublings) } }

/-- `WEIGHT <- v`, MAX_DOUBLINGS + 1 bits (R18). -/
def State.setWeight (s : State) (v : Nat) : State :=
  { s with regs := { s.regs with weight := BitVec.ofNat 64 (v % 2 ^ (s.cfg.maxDoublings + 1)) } }

/-- `DUR <- v`, CW bits (R20). -/
def State.setDur (s : State) (v : Nat) : State :=
  { s with regs := { s.regs with dur := BitVec.ofNat 32 (v % 2 ^ s.cfg.cw) } }

/-- `RAW[0] <- v` (R22). -/
def State.setRaw0 (s : State) (v : Raw) : State := { s with regs := { s.regs with raw0 := v } }

/-- `RAW[1] <- v` (R23). -/
def State.setRaw1 (s : State) (v : Raw) : State := { s with regs := { s.regs with raw1 := v } }

/-- `ERR <- v` (R24). -/
def State.setErr (s : State) (v : BitVec 3) : State := { s with regs := { s.regs with err := v } }

/-- `MEAS0 <- v` (R25). -/
def State.setMeas0 (s : State) (v : F64) : State := { s with regs := { s.regs with meas0 := v } }

/-- `MEAS1 <- v` (R26). -/
def State.setMeas1 (s : State) (v : F64) : State := { s with regs := { s.regs with meas1 := v } }

/-- `ACC <- 0; WEIGHT <- 1; DUR <- 0`: the entry condition of the Word Receiver (41_word_receiver.md R89). -/
def State.beginWord (s : State) : State := ((s.setAcc 0).setWeight 1).setDur 0

/-- One more tick of a pulse: `DUR <- DUR + 1 if DUR < 2^CW - 1 else DUR` (40_frame_synchronizer.md R85, 41_word_receiver.md R94). -/
def State.countTick (s : State) : State :=
  if s.regs.dur.toNat < 2 ^ s.cfg.cw - 1 then s.setDur (s.regs.dur.toNat + 1) else s

/-- TAKING A PROTOCOL ERROR, `raise E`: `ERR <- ERR | code(E); STATE <- S_DISCARD`, and nothing else: it saves nothing and
changes no mode (60_exceptions.md R124; 00_scope.md section 5). -/
def State.raise (s : State) (e : ProtocolError) : State :=
  (s.setErr (s.regs.err ||| errCode e)).setState sDiscard

/-- THE FRAME CLEAR: every register to its reset value (43_frame_orchestration.md R116). It is the return from a protocol
error (60_exceptions.md R126), the end of EMIT, and RESET. -/
def State.frameClear (s : State) : State := { s with regs := Regs.reset }

/-- `Output(e)`: the event goes to its collaborator, at the current tick (20_memory.md R47, 00_scope.md R13). -/
def State.output (s : State) (e : Event) : State := { s with events := s.events ++ [⟨s.tickNo, e⟩] }

/-- The end of an edge at which the ports had levels `p`: its entry of the stimulus is used up, one more edge has passed,
and one more tick if it was one, `rst = 0` and `tick = 1` (10_state.md R31). -/
def State.endEdge (p : Pins) (s : State) : State :=
  { s with stimulus := s.stimulus.tail, edge := s.edge + 1,
           tickNo := if !p.rst && p.tick then s.tickNo + 1 else s.tickNo }

/-- Apply `f` to the next state of an outcome; a fault or a refusal stays as it is. -/
def onNext (f : State → State) : Host.Outcome State Fault Refusal → Host.Outcome State Fault Refusal
  | .next s => .next (f s)
  | .fault r => .fault r
  | .refused r => .refused r

/-- The refusal that stands for a selector without an operation (30_encoding.md R72). -/
def refusalOf : Reject → Refusal
  | .unusedStateCode code => .unusedStateCode code

end Sys2Proof.Machine
end

