-- ==== Sys2Proof/Machine/Converter.lean ====
section
/-! DEFINITION. The Value Converter's operation (spec/42_value_converter.md). -/

namespace Sys2Proof.Machine

/-- CONVERT (R106): `MEAS0 <- mm(RAW[0]); MEAS1 <- fneg(mm(RAW[1])); STATE <- S_EMIT`. -/
def execConvert (s : State) : Host.Outcome State Fault Refusal :=
  .next (((s.setMeas0 (mm s.cfg.scale s.regs.raw0)).setMeas1 (fneg (mm s.cfg.scale s.regs.raw1))).setState sEmit)

end Sys2Proof.Machine
end

