-- ==== Sys2Proof/Machine/Orchestration.lean ====
section
/-! DEFINITION. Frame orchestration: EMIT, DISCARD, HOLD (spec/43_frame_orchestration.md), RESET
(spec/70_reset_and_hazards.md R141), the doc-level state (spec/10_state.md R16) and the output ports (R32). -/

namespace Sys2Proof.Machine

/-- EMIT (43_frame_orchestration.md R111): `Output(Emit(RAW[0], RAW[1], MEAS0, MEAS1))`, with the values at the start of
the step; then the frame clear (R116). -/
def execEmit (s : State) : Host.Outcome State Fault Refusal :=
  .next (s.output (.emit s.regs.raw0 s.regs.raw1 s.regs.meas0 s.regs.meas1)).frameClear

/-- DISCARD (R112): `Output(Discard(ERR))`, with the Error Set at the start of the step; then the frame clear (R116). -/
def execDiscard (s : State) : Host.Outcome State Fault Refusal :=
  .next (s.output (.discard s.regs.err)).frameClear

/-- HOLD (R113): nothing changes. -/
def execHold (s : State) : Host.Outcome State Fault Refusal := .next s

/-- RESET (70_reset_and_hazards.md R141): every register to its reset value; no event; the configuration is not reset
(10_state.md R30). -/
def execReset (s : State) : Host.Outcome State Fault Refusal := .next s.frameClear

/-- The doc-level state, a function of STATE and WIDX (10_state.md R16); none for the unused codes. -/
def Regs.docState (r : Regs) : Option DocState :=
  match r.state.toNat with
  | 0 | 1 | 2 => some .syncing
  | 3 | 4 | 5 => some (if r.widx = 0#1 then .receivingWord0 else .receivingWord1)
  | 6 => some .converting
  | 7 => some .emit
  | 8 => some .discard
  | _ => none

/-- The levels of the output ports (10_state.md R32). -/
structure OutPorts where
  emitValid : Bool
  raw0 : Raw
  raw1 : Raw
  meas0 : F64
  meas1 : F64
  discardValid : Bool
  err : BitVec 3
deriving DecidableEq, Repr

/-- The output ports, functions of the registers only, gated to 0 outside their event (10_state.md R32, 20_memory.md
R49). -/
def Regs.ports (r : Regs) : OutPorts :=
  { emitValid := decide (r.state = sEmit)
    raw0 := if r.state = sEmit then r.raw0 else 0#24
    raw1 := if r.state = sEmit then r.raw1 else 0#24
    meas0 := if r.state = sEmit then r.meas0 else 0#64
    meas1 := if r.state = sEmit then r.meas1 else 0#64
    discardValid := decide (r.state = sDiscard)
    err := if r.state = sDiscard then r.err else 0#3 }

end Sys2Proof.Machine
end

