-- ==== Sys2Proof/Machine/Receiver.lean ====
section
/-! DEFINITION. The Word Receiver's operations (spec/41_word_receiver.md). -/

namespace Sys2Proof.Machine

/-- BIT.SAMPLE.OK (R90): `ACC <- ACC + WEIGHT if d = 1 else ACC; STATE <- S_BIT_WAIT`. -/
def execBitSampleOk (d : Bool) (s : State) : Host.Outcome State Fault Refusal :=
  .next ((if d then s.setAcc (s.regs.acc.toNat + s.regs.weight.toNat) else s).setState sBitWait)

/-- BIT.SAMPLE.GLITCH (R91): `raise ClockGlitch`. -/
def execBitSampleGlitch (s : State) : Host.Outcome State Fault Refusal := .next (s.raise .clockGlitch)

/-- BIT.WAIT.HOLD (R92): `STATE <- S_BIT_WAIT`. -/
def execBitWaitHold (s : State) : Host.Outcome State Fault Refusal := .next (s.setState sBitWait)

/-- BIT.WAIT.RISE (R93): `WEIGHT <- WEIGHT << 1; DUR <- 1; STATE <- S_BIT_MEAS`. -/
def execBitWaitRise (s : State) : Host.Outcome State Fault Refusal :=
  .next (((s.setWeight (2 * s.regs.weight.toNat)).setDur 1).setState sBitMeas)

/-- BIT.MEAS.COUNT (R94): DUR counts, saturating; `STATE <- S_BIT_MEAS`. -/
def execBitMeasCount (s : State) : Host.Outcome State Fault Refusal := .next (s.countTick.setState sBitMeas)

/-- BIT.MEAS.NEXT (R95): `DUR <- 0; STATE <- S_BIT_SAMPLE`. -/
def execBitMeasNext (s : State) : Host.Outcome State Fault Refusal := .next ((s.setDur 0).setState sBitSample)

/-- BIT.MEAS.BOUND (R96): `raise WordLengthMismatch; DUR <- 0`. -/
def execBitMeasBound (s : State) : Host.Outcome State Fault Refusal :=
  .next ((s.setDur 0).raise .wordLengthMismatch)

/-- BIT.MEAS.WORD0 (R97): `RAW[0] <- ACC[23:0]; ACC <- 0; WEIGHT <- 1; DUR <- 0; WIDX <- 1; STATE <- S_BIT_SAMPLE`. -/
def execBitMeasWord0 (s : State) : Host.Outcome State Fault Refusal :=
  .next ((((s.setRaw0 (lowWord s.regs.acc)).beginWord).setWidx 1#1).setState sBitSample)

/-- BIT.MEAS.WORD1 (R98): `RAW[1] <- ACC[23:0]; ACC <- 0; WEIGHT <- 1; DUR <- 0; STATE <- S_CONVERT`. -/
def execBitMeasWord1 (s : State) : Host.Outcome State Fault Refusal :=
  .next (((s.setRaw1 (lowWord s.regs.acc)).beginWord).setState sConvert)

/-- BIT.MEAS.BADLEN (R99): `raise WordLengthMismatch; DUR <- 0`; no word is stored (90_conflicts.md C5). -/
def execBitMeasBadlen (s : State) : Host.Outcome State Fault Refusal :=
  .next ((s.setDur 0).raise .wordLengthMismatch)

end Sys2Proof.Machine
end

