-- ==== Sys2Proof/Machine/Sync.lean ====
section
/-! DEFINITION. The Frame Synchronizer's operations (spec/40_frame_synchronizer.md). -/

namespace Sys2Proof.Machine

/-- SYNC.ARM.HOLD (R81): `STATE <- S_SYNC_ARM`. -/
def execSyncArmHold (s : State) : Host.Outcome State Fault Refusal := .next (s.setState sSyncArm)

/-- SYNC.ARM.GO (R82): `STATE <- S_SYNC_WAIT`. -/
def execSyncArmGo (s : State) : Host.Outcome State Fault Refusal := .next (s.setState sSyncWait)

/-- SYNC.WAIT.HOLD (R83): `STATE <- S_SYNC_WAIT`. -/
def execSyncWaitHold (s : State) : Host.Outcome State Fault Refusal := .next (s.setState sSyncWait)

/-- SYNC.WAIT.RISE (R84): `DUR <- 1; STATE <- S_SYNC_MEAS`. -/
def execSyncWaitRise (s : State) : Host.Outcome State Fault Refusal := .next ((s.setDur 1).setState sSyncMeas)

/-- SYNC.MEAS.COUNT (R85): DUR counts, saturating; `STATE <- S_SYNC_MEAS`. -/
def execSyncMeasCount (s : State) : Host.Outcome State Fault Refusal := .next (s.countTick.setState sSyncMeas)

/-- SYNC.MEAS.ACCEPT (R86): `WIDX <- 0; ACC <- 0; WEIGHT <- 1; DUR <- 0; STATE <- S_BIT_SAMPLE`. -/
def execSyncMeasAccept (s : State) : Host.Outcome State Fault Refusal :=
  .next (((s.setWidx 0#1).beginWord).setState sBitSample)

/-- SYNC.MEAS.SHORT (R87): `raise StartPulseTooShort; DUR <- 0`. -/
def execSyncMeasShort (s : State) : Host.Outcome State Fault Refusal :=
  .next ((s.setDur 0).raise .startPulseTooShort)

end Sys2Proof.Machine
end

