-- ==== Sys2Proof/Machine/Dispatch.lean ====
section
/-! DEFINITION. One arm for each operation of spec/opcode_table.json. -/

namespace Sys2Proof.Machine

def exec (i : Instr) (s : State) : Host.Outcome State Fault Refusal :=
  match i with
  | .reset => Sys2Proof.Machine.execReset s
  | .hold => Sys2Proof.Machine.execHold s
  | .syncArmHold => Sys2Proof.Machine.execSyncArmHold s
  | .syncArmGo => Sys2Proof.Machine.execSyncArmGo s
  | .syncWaitHold => Sys2Proof.Machine.execSyncWaitHold s
  | .syncWaitRise => Sys2Proof.Machine.execSyncWaitRise s
  | .syncMeasCount => Sys2Proof.Machine.execSyncMeasCount s
  | .syncMeasAccept => Sys2Proof.Machine.execSyncMeasAccept s
  | .syncMeasShort => Sys2Proof.Machine.execSyncMeasShort s
  | .bitSampleOk d => Sys2Proof.Machine.execBitSampleOk d s
  | .bitSampleGlitch => Sys2Proof.Machine.execBitSampleGlitch s
  | .bitWaitHold => Sys2Proof.Machine.execBitWaitHold s
  | .bitWaitRise => Sys2Proof.Machine.execBitWaitRise s
  | .bitMeasCount => Sys2Proof.Machine.execBitMeasCount s
  | .bitMeasNext => Sys2Proof.Machine.execBitMeasNext s
  | .bitMeasBound => Sys2Proof.Machine.execBitMeasBound s
  | .bitMeasWord0 => Sys2Proof.Machine.execBitMeasWord0 s
  | .bitMeasWord1 => Sys2Proof.Machine.execBitMeasWord1 s
  | .bitMeasBadlen => Sys2Proof.Machine.execBitMeasBadlen s
  | .convert => Sys2Proof.Machine.execConvert s
  | .emit => Sys2Proof.Machine.execEmit s
  | .discard => Sys2Proof.Machine.execDiscard s

end Sys2Proof.Machine
end

