-- ==== Sys2Proof/Machine/Stimulus.lean ====
section
/-! DEFINITION. The stimulus notation (spec/30_encoding.md section 5, R75 to R79), the program text of this hardware, and
the cells of a frame with any timing and any ignored data levels (spec/70_reset_and_hazards.md R160). -/

namespace Sys2Proof.Machine

/-- The port levels of a tick at which `Sample()` returns (c, d): `rst = 0`, `tick = 1` (R75). -/
def tickPins (c d : Bool) : Pins := ⟨false, true, c, d⟩

/-- The tick symbols (R75). -/
inductive Symbol where
  /-- clock low, data 0 -/
  | o
  /-- clock low, data 1 -/
  | i
  /-- clock pulse, data 0 -/
  | P
  /-- clock pulse, data 1 -/
  | Q
deriving DecidableEq, Repr

/-- The pair (c, d) a symbol stands for, as port levels (R75). -/
def Symbol.pins : Symbol → Pins
  | .o => tickPins false false
  | .i => tickPins false true
  | .P => tickPins true false
  | .Q => tickPins true true

/-- `IDLE(n)` = `o*n` (R77). -/
def idle (n : Nat) : List Symbol := List.replicate n .o

/-- `MARK(n)` = `P*n` (R77). -/
def markPulse (n : Nat) : List Symbol := List.replicate n .P

/-- `BIT(b; lo, hi)` (R77). -/
def bitCell (b : Bool) (lo hi : Nat) : List Symbol :=
  List.replicate lo (if b then .i else .o) ++ List.replicate hi .P

/-- `WORDN(v, n; lo, hi, mk)`: n cells, the first n - 1 closed by pulses of hi ticks, the last by one of mk (R78). -/
def wordN (v n lo hi mk : Nat) : List Symbol :=
  (List.range n).flatMap fun k => bitCell (v.testBit k) lo (if k + 1 = n then mk else hi)

/-- `WORD(v; lo, hi, mk)` (R78). -/
def word (v lo hi mk : Nat) : List Symbol := wordN v 24 lo hi mk

/-- `FRAME(v0, v1; lo, hi, mk)` (R79). -/
def frame (v0 v1 lo hi mk : Nat) : List Symbol := markPulse mk ++ word v0 lo hi mk ++ word v1 lo hi mk

/-- The port levels a list of symbols stands for. -/
def stimulusOf (l : List Symbol) : List Pins := l.map Symbol.pins

/-- A bit cell on the wire with any timing (30_encoding.md R60, 70_reset_and_hazards.md R160): a clock-low phase of
`low.length + 2` ticks whose second tick carries the bit, then a pulse of `high.length` ticks; the data levels at the
other ticks are the ones the block ignores (30_encoding.md R74). -/
structure Cell where
  /-- the data level at the first tick of the clock-low phase -/
  lead : Bool
  /-- the data level at the second tick: the bit -/
  bit : Bool
  /-- the data levels at the remaining ticks of the clock-low phase -/
  low : List Bool
  /-- the data levels at the ticks of the closing pulse -/
  high : List Bool
deriving DecidableEq, Repr

/-- The ticks of a cell. -/
def Cell.ticks (x : Cell) : List Pins :=
  tickPins false x.lead :: tickPins false x.bit :: (x.low.map (tickPins false) ++ x.high.map (tickPins true))

/-- The ticks of a list of cells. -/
def cellTicks (l : List Cell) : List Pins := l.flatMap Cell.ticks

end Sys2Proof.Machine
end

