-- ==== Sys2Proof/Machine/Step.lean ====
section
/-! DEFINITION. One step: one rising edge of `clk` (spec/00_scope.md R14, spec/10_state.md R31). -/

namespace Sys2Proof.Machine

/-- One edge: the configuration must be legal (00_scope.md R11); the operation is the one SEL and the guards select
(30_encoding.md R67 to R72); then the edge ends. -/
def step (s : State) : Host.Outcome State Fault Refusal :=
  if s.cfg.legal then
    match decode s.sel s.guards with
    | .ok i => onNext (State.endEdge s.pins) (exec i s)
    | .error r => .refused (refusalOf r)
  else .refused .illegalConfiguration

/-- `s` with the selector `w` at its next edge: `ssss` in STATE, `r`, `t`, `c`, `d` as the next entry of the stimulus
(log 3). The table gives every row 8 bits, so `nbits` says nothing more. -/
def State.withFetchWord (s : State) (_nbits w : Nat) : State :=
  { s with regs := { s.regs with state := selState (BitVec.ofNat 8 w) },
           stimulus := selPins (BitVec.ofNat 8 w) :: s.stimulus.tail }

end Sys2Proof.Machine
end

