-- ==== Sys2Proof/Safety.lean ====
section
/-! DEFINITION. What the statements speak of: the invariants of the reachable states (spec/10_state.md R34 to R40), the
register access table (R27), the transition table (spec/43_frame_orchestration.md R115), the value of a binary64 pattern
(spec/30_encoding.md R66), and words and frames on the wire (R62, spec/70_reset_and_hazards.md R160). -/

namespace Sys2Proof.Machine

/-- The state after a tick that leaves the registers `r` and produces no event. -/
def State.ticked (s : State) (r : Regs) : State :=
  { s with regs := r, stimulus := s.stimulus.tail, edge := s.edge + 1, tickNo := s.tickNo + 1 }

/-- A tick: a legal configuration, `rst = 0`, `tick = 1`, line levels (c, d), control state `code`. -/
def State.tickAt (s : State) (code : BitVec 4) (c d : Bool) : Prop :=
  s.cfg.legal = true ∧ s.pins = tickPins c d ∧ s.regs.state = code

/-- ACC, WEIGHT and DUR hold no more bits than the configuration gives them (10_state.md R17, R18, R20). -/
structure RegsFit (c : Config) (r : Regs) : Prop where
  acc : r.acc.toNat < 2 ^ c.maxDoublings
  weight : r.weight.toNat < 2 ^ (c.maxDoublings + 1)
  dur : r.dur.toNat < 2 ^ c.cw

/-- What R36 says of all three receiving states. -/
structure Receiving (r : Regs) : Prop where
  err : r.err = 0#3
  meas0 : r.meas0 = 0#64
  meas1 : r.meas1 = 0#64
  raw1 : r.raw1 = 0#24
  raw0 : r.widx = 0#1 → r.raw0 = 0#24

/-- The invariants of the registers in the reachable states (10_state.md R34 to R40). -/
structure RegsInv (c : Config) (r : Regs) : Prop where
  /-- R40 -/
  code : r.state.toNat ≤ 8
  /-- R34 -/
  fresh : r.state = sSyncArm ∨ r.state = sSyncWait → r = { Regs.reset with state := r.state }
  /-- R35 -/
  measuring : r.state = sSyncMeas →
    r = { Regs.reset with state := sSyncMeas, dur := r.dur } ∧ 1 ≤ r.dur.toNat ∧ r.dur.toNat ≤ 2 ^ c.cw - 1
  /-- R36 -/
  receiving : r.state = sBitSample ∨ r.state = sBitWait ∨ r.state = sBitMeas → Receiving r
  /-- R36 -/
  sampling : r.state = sBitSample →
    (∃ n, n ≤ c.maxDoublings - 1 ∧ r.weight.toNat = 2 ^ n) ∧ r.acc.toNat < r.weight.toNat ∧ r.dur = 0#32
  /-- R36 -/
  waiting : r.state = sBitWait →
    (∃ n, n ≤ c.maxDoublings - 1 ∧ r.weight.toNat = 2 ^ n) ∧ r.acc.toNat < 2 * r.weight.toNat ∧ r.dur = 0#32
  /-- R36 -/
  pulse : r.state = sBitMeas →
    (∃ n, 1 ≤ n ∧ n ≤ c.maxDoublings ∧ r.weight.toNat = 2 ^ n) ∧ r.acc.toNat < r.weight.toNat ∧
      1 ≤ r.dur.toNat ∧ r.dur.toNat ≤ 2 ^ c.cw - 1
  /-- R37 -/
  converting : r.state = sConvert →
    r = { Regs.reset with state := sConvert, widx := 1#1, raw0 := r.raw0, raw1 := r.raw1 }
  /-- R38 -/
  emitting : r.state = sEmit →
    r = { Regs.reset with state := sEmit, widx := 1#1, raw0 := r.raw0, raw1 := r.raw1,
                          meas0 := mm c.scale r.raw0, meas1 := fneg (mm c.scale r.raw1) }
  /-- R39 -/
  discarding : r.state = sDiscard →
    (r.err = 0b001#3 ∨ r.err = 0b010#3 ∨ r.err = 0b100#3) ∧ r.dur = 0#32 ∧ r.meas0 = 0#64 ∧ r.meas1 = 0#64 ∧
      r.raw1 = 0#24

/-- What an event of a run carries: an Emit the measurements of its raw words (42_value_converter.md R106), a Discard
exactly one flag (60_exceptions.md R129). -/
def EventOk (c : Config) : Event → Prop
  | .emit raw0 raw1 meas0 meas1 => meas0 = mm c.scale raw0 ∧ meas1 = fneg (mm c.scale raw1)
  | .discard err => err = 0b001#3 ∨ err = 0b010#3 ∨ err = 0b100#3

/-- The invariant of the machine: the registers' invariants, and the events delivered are well formed, in strictly rising
tick order, all before the present tick (20_memory.md R47, R55). -/
structure Inv (s : State) : Prop where
  legal : s.cfg.legal = true
  regs : RegsInv s.cfg s.regs
  events : ∀ x ∈ s.events, EventOk s.cfg x.event
  past : ∀ x ∈ s.events, x.tick < s.tickNo
  order : s.events.Pairwise fun x y => x.tick < y.tick

/-- A machine just out of reset: a legal configuration, registers at their reset values, nothing delivered; whatever the
stimulus and the edge and tick numbers are. -/
structure AtReset (s : State) : Prop where
  legal : s.cfg.legal = true
  regs : s.regs = Regs.reset
  events : s.events = []

/-- The states a run from reset reaches, for every legal configuration and every stimulus (10_state.md section 9). -/
inductive Reachable : State → Prop where
  | start (s : State) (h : AtReset s) : Reachable s
  | step (s t : State) (hs : Reachable s) (h : step s = .next t) : Reachable t

/-- The ten registers of the access table (10_state.md R27). -/
inductive RegName where
  | STATE | WIDX | ACC | WEIGHT | DUR | RAW0 | RAW1 | ERR | MEAS0 | MEAS1
deriving DecidableEq, Repr

/-- The value a register holds. -/
def Regs.value (r : Regs) : RegName → Nat
  | .STATE => r.state.toNat
  | .WIDX => r.widx.toNat
  | .ACC => r.acc.toNat
  | .WEIGHT => r.weight.toNat
  | .DUR => r.dur.toNat
  | .RAW0 => r.raw0.toNat
  | .RAW1 => r.raw1.toNat
  | .ERR => r.err.toNat
  | .MEAS0 => r.meas0.toNat
  | .MEAS1 => r.meas1.toNat

/-- The registers marked `r` or `rw` in the row of an operation (10_state.md R27). -/
def readsOf : Instr → List RegName
  | .reset | .hold => []
  | .syncArmHold | .syncArmGo | .syncWaitHold | .syncWaitRise | .bitWaitHold => [.STATE]
  | .syncMeasCount | .syncMeasAccept | .bitMeasCount => [.STATE, .DUR]
  | .syncMeasShort => [.STATE, .DUR, .ERR]
  | .bitSampleOk _ => [.STATE, .ACC, .WEIGHT]
  | .bitSampleGlitch => [.STATE, .ERR]
  | .bitWaitRise => [.STATE, .WEIGHT]
  | .bitMeasNext => [.STATE, .WEIGHT, .DUR]
  | .bitMeasBound | .bitMeasBadlen => [.STATE, .WEIGHT, .DUR, .ERR]
  | .bitMeasWord0 | .bitMeasWord1 => [.STATE, .WIDX, .ACC, .WEIGHT, .DUR]
  | .convert => [.STATE, .RAW0, .RAW1]
  | .emit => [.STATE, .RAW0, .RAW1, .MEAS0, .MEAS1]
  | .discard => [.STATE, .ERR]

/-- The registers marked `w` or `rw` in the row of an operation (10_state.md R27). -/
def writesOf : Instr → List RegName
  | .hold => []
  | .syncArmHold | .syncArmGo | .syncWaitHold | .bitWaitHold => [.STATE]
  | .syncWaitRise | .syncMeasCount | .bitMeasCount | .bitMeasNext => [.STATE, .DUR]
  | .syncMeasAccept => [.STATE, .WIDX, .ACC, .WEIGHT, .DUR]
  | .syncMeasShort | .bitMeasBound | .bitMeasBadlen => [.STATE, .DUR, .ERR]
  | .bitSampleOk _ => [.STATE, .ACC]
  | .bitSampleGlitch => [.STATE, .ERR]
  | .bitWaitRise => [.STATE, .WEIGHT, .DUR]
  | .bitMeasWord0 => [.STATE, .WIDX, .ACC, .WEIGHT, .DUR, .RAW0]
  | .bitMeasWord1 => [.STATE, .ACC, .WEIGHT, .DUR, .RAW1]
  | .convert => [.STATE, .MEAS0, .MEAS1]
  | .reset | .emit | .discard => [.STATE, .WIDX, .ACC, .WEIGHT, .DUR, .RAW0, .RAW1, .ERR, .MEAS0, .MEAS1]

/-- The event an operation produces, from the registers at the start of the step (20_memory.md R47). -/
def eventOf (i : Instr) (r : Regs) : Option Event :=
  match i with
  | .emit => some (.emit r.raw0 r.raw1 r.meas0 r.meas1)
  | .discard => some (.discard r.err)
  | .reset | .hold | .syncArmHold | .syncArmGo | .syncWaitHold | .syncWaitRise | .syncMeasCount | .syncMeasAccept
  | .syncMeasShort | .bitSampleOk _ | .bitSampleGlitch | .bitWaitHold | .bitWaitRise | .bitMeasCount | .bitMeasNext
  | .bitMeasBound | .bitMeasWord0 | .bitMeasWord1 | .bitMeasBadlen | .convert => none

/-- "operation" of the transition table (43_frame_orchestration.md R115), by the state before, the clock level and the
guards written out; `d` is the sampled data level. Every code from 8 on stands for S_DISCARD. -/
def tableOperation (c : Config) (r : Regs) (clk d : Bool) : Instr :=
  match r.state.toNat with
  | 0 => if clk then .syncArmHold else .syncArmGo
  | 1 => if clk then .syncWaitRise else .syncWaitHold
  | 2 => if clk then .syncMeasCount else if c.threshold ≤ r.dur.toNat then .syncMeasAccept else .syncMeasShort
  | 3 => if clk then .bitSampleGlitch else .bitSampleOk d
  | 4 => if clk then .bitWaitRise else .bitWaitHold
  | 5 =>
    if clk then .bitMeasCount
    else if c.threshold ≤ r.dur.toNat then
      if r.weight.toNat = 2 ^ 24 then (if r.widx = 0#1 then .bitMeasWord0 else .bitMeasWord1) else .bitMeasBadlen
    else if r.weight.toNat = 2 ^ c.maxDoublings then .bitMeasBound else .bitMeasNext
  | 6 => .convert
  | 7 => .emit
  | _ => .discard

/-- "STATE after" of the transition table (43_frame_orchestration.md R115), by the state before, the clock level and the
guards written out. Every code from 8 on stands for S_DISCARD. -/
def codeAfter (c : Config) (r : Regs) (clk : Bool) : BitVec 4 :=
  let marker := c.threshold ≤ r.dur.toNat
  match r.state.toNat with
  | 0 => if clk then sSyncArm else sSyncWait
  | 1 => if clk then sSyncMeas else sSyncWait
  | 2 => if clk then sSyncMeas else if marker then sBitSample else sDiscard
  | 3 => if clk then sDiscard else sBitWait
  | 4 => if clk then sBitMeas else sBitWait
  | 5 =>
    if clk then sBitMeas
    else if marker then
      if r.weight.toNat = 2 ^ 24 then (if r.widx = 0#1 then sBitSample else sConvert) else sDiscard
    else if r.weight.toNat = 2 ^ c.maxDoublings then sDiscard else sBitSample
  | 6 => sEmit
  | _ => sSyncArm

/-- The edges of the doc-level state graph (43_frame_orchestration.md R110). -/
def docEdges : List (DocState × DocState) :=
  [(.syncing, .syncing), (.syncing, .receivingWord0), (.syncing, .discard), (.receivingWord0, .receivingWord0),
    (.receivingWord1, .receivingWord1), (.receivingWord0, .receivingWord1), (.receivingWord1, .converting),
    (.receivingWord0, .discard), (.receivingWord1, .discard), (.converting, .emit), (.emit, .syncing),
    (.discard, .syncing)]

/-- The number a zero or normal binary64 pattern denotes (30_encoding.md R66). -/
def f64Value (a : F64) : ℚ :=
  if f64IsZero a then 0
  else (if f64Sign a then -1 else 1) * (f64Significand a : ℚ) * (2 : ℚ) ^ ((f64Exp a : ℤ) - 1075)

/-- The patterns that occur: zeros and normal numbers (30_encoding.md R66, 42_value_converter.md R108). -/
def f64Ok (a : F64) : Prop := f64IsZero a = true ∨ f64IsNormal a = true

/-- Cell k carries bit k of `v`, least significant bit first (30_encoding.md R62, R65). -/
def CellsCarry (cells : List Cell) (v : Nat) : Prop :=
  ∀ k (h : k < cells.length), (cells[k]).bit = v.testBit k

/-- A short pulse closes the cell: 1 to THRESHOLD - 1 ticks (30_encoding.md R61). -/
def Cell.short (c : Config) (x : Cell) : Prop := 1 ≤ x.high.length ∧ x.high.length < c.threshold

/-- A marker closes the cell: THRESHOLD ticks or more (R61). -/
def Cell.marker (c : Config) (x : Cell) : Prop := c.threshold ≤ x.high.length

/-- A well-framed word on the wire that carries `v`: 24 cells, cell k carrying bit k of v, the first 23 closed by short
pulses and the last by a marker (30_encoding.md R62, 70_reset_and_hazards.md R160). -/
structure WireWord (c : Config) (cells : List Cell) (v : Raw) : Prop where
  count : cells.length = 24
  bits : CellsCarry cells v.toNat
  shorts : ∀ k (h : k < cells.length), k < 23 → (cells[k]).short c
  closing : ∀ h : 23 < cells.length, (cells[23]).marker c

end Sys2Proof.Machine
end

