-- ==== Sys2Proof/Certificates/Slice0/Obligations.lean ====
section
/-! DEFINITION. The statements for the provers, from the numbered rules of spec/.

Two things in them are the model's and no rule's. The fields `stimulus`, `edge`, `tickNo` and `events` are the model's record
of what is outside the block (log 2, log 4). And `exec i s` is the pseudocode of the rule of `i` applied to any registers,
also in a control state that does not select `i` (log 7); the clauses about `step` speak of the states that do. -/

open Sys2Proof Sys2Proof.Machine

/-! ### Reset and hold -/

/-- R33: the reset values of all ten registers, the doc-level state and the output ports after reset, and the same register
values after RESET, EMIT and DISCARD from any state; the configuration is left alone. -/
def Obligations.ResetValuesOfEveryRegister : Prop :=
  State.reset.regs =
      { state := sSyncArm, widx := 0#1, acc := 0#63, weight := 1#64, dur := 0#32, raw0 := 0#24, raw1 := 0#24,
        err := 0#3, meas0 := 0#64, meas1 := 0#64 } ∧
    State.reset.regs.docState = some .syncing ∧
    State.reset.regs.ports = ⟨false, 0#24, 0#24, 0#64, 0#64, false, 0#3⟩ ∧
    (∀ s : State, exec .reset s = .next { s with regs := State.reset.regs }) ∧
    ∀ s : State, ∀ i ∈ [Instr.emit, Instr.discard], ∃ t, exec i s = .next t ∧ t.regs = State.reset.regs ∧ t.cfg = s.cfg

/-- R141, R143: at every edge with `rst = 1`, whatever STATE (the unused codes included), `tick` and the lines are, the
operation is RESET; every register takes its reset value, no event is produced and the output ports are all 0. -/
def Obligations.ResetWinsFromEveryState : Prop :=
  ∀ s : State, s.cfg.legal = true → s.pins.rst = true →
    decode s.sel s.guards = .ok .reset ∧
    step s = .next { s with regs := Regs.reset, stimulus := s.stimulus.tail, edge := s.edge + 1 } ∧
    Regs.reset.ports = ⟨false, 0#24, 0#24, 0#64, 0#64, false, 0#3⟩

/-- R113: at an edge with `rst = 0` and `tick = 0` the operation is HOLD, and nothing of the block changes: no register, no
event, no output port; only the edge passes. -/
def Obligations.HoldChangesNothing : Prop :=
  (∀ s : State, exec .hold s = .next s) ∧
    ∀ s : State, s.cfg.legal = true → s.pins.rst = false → s.pins.tick = false →
      decode s.sel s.guards = .ok .hold ∧
      ∃ t, step s = .next t ∧ t = { s with stimulus := s.stimulus.tail, edge := s.edge + 1 } ∧
        t.regs.ports = s.regs.ports

/-! ### The operations -/

/-- R81, R83, R92: the three waiting operations: which ticks select them, and that they change nothing. -/
def Obligations.WaitOperationsHoldTheBlock : Prop :=
  (∀ s : State, exec .syncArmHold s = .next { s with regs := { s.regs with state := sSyncArm } }) ∧
    (∀ s : State, exec .syncWaitHold s = .next { s with regs := { s.regs with state := sSyncWait } }) ∧
    (∀ s : State, exec .bitWaitHold s = .next { s with regs := { s.regs with state := sBitWait } }) ∧
    (∀ (s : State) (d : Bool), s.tickAt sSyncArm true d →
      decode s.sel s.guards = .ok .syncArmHold ∧ step s = .next (s.ticked s.regs)) ∧
    (∀ (s : State) (d : Bool), s.tickAt sSyncWait false d →
      decode s.sel s.guards = .ok .syncWaitHold ∧ step s = .next (s.ticked s.regs)) ∧
    ∀ (s : State) (d : Bool), s.tickAt sBitWait false d →
      decode s.sel s.guards = .ok .bitWaitHold ∧ step s = .next (s.ticked s.regs)

/-- R82: SYNC.ARM.GO: in S_SYNC_ARM, at a tick with the clock low, the block goes to S_SYNC_WAIT and all else is
unchanged. -/
def Obligations.ArmGoesToWaitWhenClockIsLow : Prop :=
  (∀ s : State, exec .syncArmGo s = .next { s with regs := { s.regs with state := sSyncWait } }) ∧
    ∀ (s : State) (d : Bool), s.tickAt sSyncArm false d →
      decode s.sel s.guards = .ok .syncArmGo ∧ step s = .next (s.ticked { s.regs with state := sSyncWait })

/-- R84: SYNC.WAIT.RISE: the first high tick of the candidate start pulse is counted: DUR is 1. -/
def Obligations.RiseInSyncStartsTheCountAtOne : Prop :=
  (∀ s : State, s.cfg.legal = true →
      exec .syncWaitRise s = .next { s with regs := { s.regs with dur := 1#32, state := sSyncMeas } }) ∧
    ∀ (s : State) (d : Bool), s.tickAt sSyncWait true d →
      decode s.sel s.guards = .ok .syncWaitRise ∧
      step s = .next (s.ticked { s.regs with dur := 1#32, state := sSyncMeas })

/-- R93: BIT.WAIT.RISE: the bit-weight, which is at most 2^(MAX_DOUBLINGS - 1), doubles exactly, and the pulse's count starts
at 1. -/
def Obligations.RiseInWordDoublesTheWeight : Prop :=
  (∀ s : State, s.cfg.legal = true → s.regs.weight.toNat ≤ 2 ^ (s.cfg.maxDoublings - 1) →
      ∃ w : BitVec 64, w.toNat = 2 * s.regs.weight.toNat ∧ w.toNat ≤ 2 ^ s.cfg.maxDoublings ∧
        exec .bitWaitRise s = .next { s with regs := { s.regs with weight := w, dur := 1#32, state := sBitMeas } }) ∧
    ∀ (s : State) (d : Bool), s.tickAt sBitWait true d → s.regs.weight.toNat ≤ 2 ^ (s.cfg.maxDoublings - 1) →
      decode s.sel s.guards = .ok .bitWaitRise ∧
      ∃ w : BitVec 64, w.toNat = 2 * s.regs.weight.toNat ∧ w.toNat ≤ 2 ^ s.cfg.maxDoublings ∧
        step s = .next (s.ticked { s.regs with weight := w, dur := 1#32, state := sBitMeas })

/-- R85, R94: the counting operations: DUR goes up by one and stays at 2^CW - 1, and the saturated count is classified as
the true one would be. -/
def Obligations.CountingOperationsSaturate : Prop :=
  (∀ s : State, s.cfg.legal = true →
      exec .syncMeasCount s = .next { s with regs := { s.regs with
        dur := if s.regs.dur.toNat < 2 ^ s.cfg.cw - 1 then s.regs.dur + 1#32 else s.regs.dur, state := sSyncMeas } }) ∧
    (∀ s : State, s.cfg.legal = true →
      exec .bitMeasCount s = .next { s with regs := { s.regs with
        dur := if s.regs.dur.toNat < 2 ^ s.cfg.cw - 1 then s.regs.dur + 1#32 else s.regs.dur, state := sBitMeas } }) ∧
    (∀ (s : State) (d : Bool), s.tickAt sSyncMeas true d → decode s.sel s.guards = .ok .syncMeasCount) ∧
    (∀ (s : State) (d : Bool), s.tickAt sBitMeas true d → decode s.sel s.guards = .ok .bitMeasCount) ∧
    ∀ (s : State) (d : Bool), s.tickAt sSyncMeas true d ∨ s.tickAt sBitMeas true d →
      ∃ v : BitVec 32, step s = .next (s.ticked { s.regs with dur := v }) ∧
        (s.regs.dur.toNat < 2 ^ s.cfg.cw - 1 → v.toNat = s.regs.dur.toNat + 1) ∧
        (2 ^ s.cfg.cw - 1 ≤ s.regs.dur.toNat → v = s.regs.dur) ∧
        (s.cfg.threshold ≤ v.toNat ↔ s.cfg.threshold ≤ s.regs.dur.toNat + 1)

/-- R86: SYNC.MEAS.ACCEPT: a start pulse of THRESHOLD ticks or more hands over to the Word Receiver for word 0. -/
def Obligations.AcceptedMarkerStartsWordZero : Prop :=
  (∀ s : State, exec .syncMeasAccept s = .next { s with regs := { s.regs with
      widx := 0#1, acc := 0#63, weight := 1#64, dur := 0#32, state := sBitSample } }) ∧
    ∀ (s : State) (d : Bool), s.tickAt sSyncMeas false d → s.cfg.threshold ≤ s.regs.dur.toNat →
      decode s.sel s.guards = .ok .syncMeasAccept ∧
      step s = .next (s.ticked { s.regs with
        widx := 0#1, acc := 0#63, weight := 1#64, dur := 0#32, state := sBitSample })

/-- R87, R91, R96, R99: the four operations that raise a protocol error: which ticks select them, the flag each sets, and
that control goes to S_DISCARD with DUR cleared (but for the glitch, which leaves DUR) and everything else kept. -/
def Obligations.ErrorOperationsRaiseTheirFlag : Prop :=
  (∀ s : State, exec .syncMeasShort s = .next { s with regs := { s.regs with
      err := s.regs.err ||| 0b001#3, dur := 0#32, state := sDiscard } }) ∧
    (∀ s : State, exec .bitSampleGlitch s = .next { s with regs := { s.regs with
      err := s.regs.err ||| 0b010#3, state := sDiscard } }) ∧
    (∀ s : State, exec .bitMeasBound s = .next { s with regs := { s.regs with
      err := s.regs.err ||| 0b100#3, dur := 0#32, state := sDiscard } }) ∧
    (∀ s : State, exec .bitMeasBadlen s = .next { s with regs := { s.regs with
      err := s.regs.err ||| 0b100#3, dur := 0#32, state := sDiscard } }) ∧
    (∀ (s : State) (d : Bool), s.tickAt sSyncMeas false d → s.regs.dur.toNat < s.cfg.threshold →
      decode s.sel s.guards = .ok .syncMeasShort ∧
      step s = .next (s.ticked { s.regs with err := s.regs.err ||| 0b001#3, dur := 0#32, state := sDiscard })) ∧
    (∀ (s : State) (d : Bool), s.tickAt sBitSample true d →
      decode s.sel s.guards = .ok .bitSampleGlitch ∧
      step s = .next (s.ticked { s.regs with err := s.regs.err ||| 0b010#3, state := sDiscard })) ∧
    (∀ (s : State) (d : Bool), s.tickAt sBitMeas false d → s.regs.dur.toNat < s.cfg.threshold →
      s.regs.weight.toNat = 2 ^ s.cfg.maxDoublings →
      decode s.sel s.guards = .ok .bitMeasBound ∧
      step s = .next (s.ticked { s.regs with err := s.regs.err ||| 0b100#3, dur := 0#32, state := sDiscard })) ∧
    ∀ (s : State) (d : Bool), s.tickAt sBitMeas false d → s.cfg.threshold ≤ s.regs.dur.toNat →
      s.regs.weight.toNat ≠ 2 ^ 24 →
      decode s.sel s.guards = .ok .bitMeasBadlen ∧
      step s = .next (s.ticked { s.regs with err := s.regs.err ||| 0b100#3, dur := 0#32, state := sDiscard })

/-- BIT.SAMPLE.OK for any register contents: with the data line low ACC is unchanged, with it high the bit-weight is added,
and the sum is cut to MAX_DOUBLINGS bits. The cut is the model's choice (log 5); `SampledBitLandsInItsPlace` says R90 itself,
under which nothing is cut. -/
def Obligations.SampleAddsTheWeightWhenDataIsHigh : Prop :=
  (∀ s : State, exec (.bitSampleOk false) s = .next { s with regs := { s.regs with state := sBitWait } }) ∧
    (∀ s : State, exec (.bitSampleOk true) s = .next { s with regs := { s.regs with
      acc := BitVec.ofNat 63 ((s.regs.acc.toNat + s.regs.weight.toNat) % 2 ^ s.cfg.maxDoublings), state := sBitWait } }) ∧
    ∀ (s : State) (d : Bool), s.tickAt sBitSample false d →
      decode s.sel s.guards = .ok (.bitSampleOk d) ∧
      step s = .next (s.ticked { s.regs with
        acc := if d then BitVec.ofNat 63 ((s.regs.acc.toNat + s.regs.weight.toNat) % 2 ^ s.cfg.maxDoublings)
               else s.regs.acc,
        state := sBitWait })

/-- R90, in the states a run reaches (premise `RegsInv`): the sampled bit lands in its place. ACC's bit NBITS becomes the
data level, every other bit is kept, and the addition never carries, fits in MAX_DOUBLINGS bits and is the bitwise or. -/
def Obligations.SampledBitLandsInItsPlace : Prop :=
  ∀ (s : State) (d : Bool) (n : Nat), RegsInv s.cfg s.regs → s.tickAt sBitSample false d → s.regs.weight.toNat = 2 ^ n →
    decode s.sel s.guards = .ok (.bitSampleOk d) ∧
    ∃ a : BitVec 63, step s = .next (s.ticked { s.regs with acc := a, state := sBitWait }) ∧
      a.toNat < 2 ^ s.cfg.maxDoublings ∧ s.regs.acc.toNat.testBit n = false ∧
      (∀ j, a.toNat.testBit j = if j = n then d else s.regs.acc.toNat.testBit j) ∧
      a.toNat = s.regs.acc.toNat + (if d then 2 ^ n else 0) ∧
      a.toNat = s.regs.acc.toNat ||| (if d then s.regs.weight.toNat else 0)

/-- R95: BIT.MEAS.NEXT: a short pulse below the safety bound goes on to the next bit. -/
def Obligations.ShortPulseGoesOnToTheNextBit : Prop :=
  (∀ s : State, exec .bitMeasNext s = .next { s with regs := { s.regs with dur := 0#32, state := sBitSample } }) ∧
    ∀ (s : State) (d : Bool), s.tickAt sBitMeas false d → s.regs.dur.toNat < s.cfg.threshold →
      s.regs.weight.toNat ≠ 2 ^ s.cfg.maxDoublings →
      decode s.sel s.guards = .ok .bitMeasNext ∧
      step s = .next (s.ticked { s.regs with dur := 0#32, state := sBitSample })

/-- R97, R98: BIT.MEAS.WORD0 and BIT.MEAS.WORD1: a marker after exactly 24 doublings stores ACC[23:0] as the word that WIDX
names, clears the working registers and goes on to word 1 or to S_CONVERT. -/
def Obligations.MarkerAfterTwentyFourBitsStoresTheWord : Prop :=
  (∀ s : State, exec .bitMeasWord0 s = .next { s with regs := { s.regs with
      raw0 := s.regs.acc.extractLsb' 0 24, acc := 0#63, weight := 1#64, dur := 0#32, widx := 1#1,
      state := sBitSample } }) ∧
    (∀ s : State, exec .bitMeasWord1 s = .next { s with regs := { s.regs with
      raw1 := s.regs.acc.extractLsb' 0 24, acc := 0#63, weight := 1#64, dur := 0#32, state := sConvert } }) ∧
    (∀ (s : State) (d : Bool), s.tickAt sBitMeas false d → s.cfg.threshold ≤ s.regs.dur.toNat →
      s.regs.weight.toNat = 2 ^ 24 → s.regs.widx = 0#1 →
      decode s.sel s.guards = .ok .bitMeasWord0 ∧
      step s = .next (s.ticked { s.regs with
        raw0 := s.regs.acc.extractLsb' 0 24, acc := 0#63, weight := 1#64, dur := 0#32, widx := 1#1,
        state := sBitSample })) ∧
    (∀ (s : State) (d : Bool), s.tickAt sBitMeas false d → s.cfg.threshold ≤ s.regs.dur.toNat →
      s.regs.weight.toNat = 2 ^ 24 → s.regs.widx = 1#1 →
      decode s.sel s.guards = .ok .bitMeasWord1 ∧
      step s = .next (s.ticked { s.regs with
        raw1 := s.regs.acc.extractLsb' 0 24, acc := 0#63, weight := 1#64, dur := 0#32, state := sConvert })) ∧
    ∀ s : State, RegsInv s.cfg s.regs → s.regs.state = sBitMeas → s.regs.weight.toNat = 2 ^ 24 →
      (s.regs.acc.extractLsb' 0 24).toNat = s.regs.acc.toNat

/-- R106: CONVERT: both measurements, the second one negated, at a tick with any line levels. -/
def Obligations.ConvertComputesBothMeasurements : Prop :=
  (∀ s : State, exec .convert s = .next { s with regs := { s.regs with
      meas0 := fmul (i2f (sint24 s.regs.raw0)) s.cfg.scale,
      meas1 := fneg (fmul (i2f (sint24 s.regs.raw1)) s.cfg.scale), state := sEmit } }) ∧
    ∀ (s : State) (c d : Bool), s.tickAt sConvert c d →
      decode s.sel s.guards = .ok .convert ∧
      step s = .next (s.ticked { s.regs with
        meas0 := fmul (i2f (sint24 s.regs.raw0)) s.cfg.scale,
        meas1 := fneg (fmul (i2f (sint24 s.regs.raw1)) s.cfg.scale), state := sEmit })

/-- R111: EMIT: one Emit event with the values at the start of the step, at a tick with any line levels; then every register
is reset. -/
def Obligations.EmitDeliversTheFrameAndClearsIt : Prop :=
  (∀ s : State, exec .emit s = .next { s with regs := Regs.reset, events := s.events ++
      [⟨s.tickNo, .emit s.regs.raw0 s.regs.raw1 s.regs.meas0 s.regs.meas1⟩] }) ∧
    ∀ (s : State) (c d : Bool), s.tickAt sEmit c d →
      decode s.sel s.guards = .ok .emit ∧
      step s = .next { s.ticked Regs.reset with events := s.events ++
        [⟨s.tickNo, .emit s.regs.raw0 s.regs.raw1 s.regs.meas0 s.regs.meas1⟩] }

/-- R112: DISCARD: one Discard event with the Error Set at the start of the step, at a tick with any line levels; then every
register is reset. -/
def Obligations.DiscardReportsTheErrorSetAndClearsTheFrame : Prop :=
  (∀ s : State, exec .discard s = .next { s with regs := Regs.reset, events := s.events ++
      [⟨s.tickNo, .discard s.regs.err⟩] }) ∧
    ∀ (s : State) (c d : Bool), s.tickAt sDiscard c d →
      decode s.sel s.guards = .ok .discard ∧
      step s = .next { s.ticked Regs.reset with events := s.events ++ [⟨s.tickNo, .discard s.regs.err⟩] }

/-- R27, the access table: every operation answers a next state in which every register its row does not mark `w` is
unchanged, the configuration is unchanged and only EMIT and DISCARD deliver an event; and what it writes into the registers
marked `w`, and the event, depend only on the registers marked `r` (and on the configuration). -/
def Obligations.OperationsObeyTheAccessTable : Prop :=
  (∀ (i : Instr) (s : State), ∃ t, exec i s = .next t ∧
      (∀ r, r ∉ writesOf i → t.regs.value r = s.regs.value r) ∧
      t.cfg = s.cfg ∧ t.stimulus = s.stimulus ∧ t.edge = s.edge ∧ t.tickNo = s.tickNo ∧
      t.events = s.events ++ (eventOf i s.regs).toList.map fun e => ⟨s.tickNo, e⟩) ∧
    ∀ (i : Instr) (s u t v : State), s.cfg = u.cfg → (∀ r ∈ readsOf i, s.regs.value r = u.regs.value r) →
      exec i s = .next t → exec i u = .next v →
      (∀ r ∈ writesOf i, t.regs.value r = v.regs.value r) ∧ eventOf i s.regs = eventOf i u.regs

/-! ### Selection of operations -/

/-- A step runs the operation the decoder reads from the selector and the guards, and then the edge ends. -/
def Obligations.StepRunsTheDecodedOperation : Prop :=
  ∀ (s t : State) (i : Instr), s.cfg.legal = true → decode s.sel s.guards = .ok i → exec i s = .next t →
    step s = .next { t with
      stimulus := t.stimulus.tail, edge := t.edge + 1,
      tickNo := if s.pins.rst = false ∧ s.pins.tick = true then t.tickNo + 1 else t.tickNo }

/-- R70, R71: the decoder is the opcode table. It reads `i` from a selector exactly where row `i` accepts it (mask, match,
guard, operand), and on every selector with `rst = 1`, or with `tick = 0`, or with a state code of 0 to 8, exactly one row
accepts. -/
def Obligations.DecoderIsTheOpcodeTable : Prop :=
  (∀ (w : Sel) (g : Guards) (i : Instr), decode w g = .ok i ↔ i.accepts w g) ∧
    ∀ (w : Sel) (g : Guards), selRst w = true ∨ selTick w = false ∨ (selState w).toNat ≤ 8 →
      ∃! i : Instr, i.accepts w g

/-- Decode and encode agree: whatever the ignored bits are, the encoding of a well-formed operation whose guard holds decodes
to it, with its operand; and a selector that decodes to `i` is the encoding of `i` but for the ignored bits. -/
def Obligations.DecodeOfEncodeIsTheOperation : Prop :=
  (∀ (i : Instr) (g : Guards) (x : Sel), i.wf = true → i.rowGuard g = true →
      decode (encode i ||| (x &&& i.ignoredMask)) g = .ok i) ∧
    ∀ (w : Sel) (g : Guards) (i : Instr), decode w g = .ok i → w = encode i ||| (w &&& i.ignoredMask)

/-- R74: which bits of SEL each operation ignores, and that two selectors that differ only in ignored bits select the same
operation. -/
def Obligations.IgnoredInputsDoNotMatter : Prop :=
  (∀ i : Instr, i.ignoredMask = match i with
      | .reset => 0x7F#8
      | .hold => 0x7B#8
      | .bitSampleOk _ => 0x00#8
      | .convert | .emit | .discard => 0x03#8
      | .syncArmHold | .syncArmGo | .syncWaitHold | .syncWaitRise | .syncMeasCount | .syncMeasAccept | .syncMeasShort
      | .bitSampleGlitch | .bitWaitHold | .bitWaitRise | .bitMeasCount | .bitMeasNext | .bitMeasBound | .bitMeasWord0
      | .bitMeasWord1 | .bitMeasBadlen => 0x01#8) ∧
    ∀ (w v : Sel) (g : Guards) (i : Instr), decode w g = .ok i → (w ^^^ v) &&& ~~~i.ignoredMask = 0#8 →
      decode v g = .ok i

/-- R46: the data level is used in S_BIT_SAMPLE only, and in S_CONVERT, S_EMIT and S_DISCARD the clock level is not used
either: the step is the same whatever the unused levels are. -/
def Obligations.LineLevelsAreUsedOnlyWhereSaid : Prop :=
  ∀ (s : State) (c d c' d' : Bool) (l : List Pins), s.regs.state ≠ sBitSample →
    c = c' ∨ s.regs.state = sConvert ∨ s.regs.state = sEmit ∨ s.regs.state = sDiscard →
    step { s with stimulus := tickPins c d :: l } = step { s with stimulus := tickPins c' d' :: l }

/-- Words written out bit by bit from the pattern strings of spec/opcode_table.json, one for each family, decode to the
operation they stand for. -/
def Obligations.WrittenOutWordsDecode : Prop :=
  decode 0b10000000#8 Guards.atReset = .ok .reset ∧ decode 0b00111000#8 Guards.atReset = .ok .hold ∧
    decode 0b00000101#8 Guards.atReset = .ok .syncArmGo ∧ decode 0b00001110#8 Guards.atReset = .ok .syncWaitRise ∧
    decode 0b00011101#8 Guards.atReset = .ok (.bitSampleOk true) ∧
    decode 0b00011100#8 Guards.atReset = .ok (.bitSampleOk false) ∧
    decode 0b00101100#8 ⟨true, true, false, false⟩ = .ok .bitMeasWord1 ∧
    decode 0b00101101#8 ⟨true, false, true, true⟩ = .ok .bitMeasBadlen ∧
    decode 0b00110110#8 Guards.atReset = .ok .convert ∧ decode 0b00111111#8 Guards.atReset = .ok .emit ∧
    decode 0b01000100#8 Guards.atReset = .ok .discard ∧
    decode 0b01001100#8 Guards.atReset = .error (.unusedStateCode 9#4)

/-- R115: the whole transition table: at every tick in one of the nine states, the operation, the state after and the event
are the table's. -/
def Obligations.TransitionTableHolds : Prop :=
  ∀ (s : State) (c d : Bool), s.cfg.legal = true → s.pins = tickPins c d → s.regs.state.toNat ≤ 8 →
    decode s.sel s.guards = .ok (tableOperation s.cfg s.regs c d) ∧
    ∃ t, step s = .next t ∧ t.regs.state = codeAfter s.cfg s.regs c ∧ t.regs.state.toNat ≤ 8 ∧
      t.events = s.events ++ (eventOf (tableOperation s.cfg s.regs c d) s.regs).toList.map fun e => ⟨s.tickNo, e⟩

/-- R72: the state codes 9 to 15: RESET and HOLD work there; a tick matches no row and is refused by name. -/
def Obligations.UnusedStateCodesAreRefused : Prop :=
  (∀ (w : Sel) (g : Guards) (i : Instr), selRst w = false → selTick w = true → 9 ≤ (selState w).toNat →
      ¬ i.accepts w g) ∧
    ∀ s : State, s.cfg.legal = true → 9 ≤ s.regs.state.toNat →
      (s.pins.rst = true →
        step s = .next { s with regs := Regs.reset, stimulus := s.stimulus.tail, edge := s.edge + 1 }) ∧
      (s.pins.rst = false → s.pins.tick = false →
        step s = .next { s with stimulus := s.stimulus.tail, edge := s.edge + 1 }) ∧
      (s.pins.rst = false → s.pins.tick = true → step s = .refused (.unusedStateCode s.regs.state))

/-- The ranges of R6 to R10: a configuration is legal exactly inside them, SCALE's as the number it denotes. And a machine with
any other is refused at every edge, edges of RESET and HOLD included; R11 says that a model refuses such a configuration, and
that it does so at every edge is the model's choice (log 8). -/
def Obligations.IllegalConfigurationsAreRefused : Prop :=
  (∀ c : Config, c.legal = true ↔
      (2 ≤ c.cw ∧ c.cw ≤ 32) ∧ (2 ≤ c.threshold ∧ c.threshold ≤ 2 ^ c.cw - 1) ∧ c.wordBits = 24 ∧
      (25 ≤ c.maxDoublings ∧ c.maxDoublings ≤ 63) ∧
      (f64IsNormal c.scale = true ∧ 0 < f64Value c.scale ∧ f64Value c.scale < 2 ^ 1001)) ∧
    ∀ s : State, s.cfg.legal = false → step s = .refused .illegalConfiguration

/-! ### Invariants -/

/-- The invariant of the machine (R34 to R40, R47, R129) is kept by every step, from every state that has it. -/
def Obligations.InvariantIsKeptByEveryStep : Prop :=
  ∀ s t : State, Inv s → step s = .next t → Inv t

/-- The invariant holds right after reset, for every legal configuration and every stimulus, and at the model's own reset
state. -/
def Obligations.InvariantHoldsAtReset : Prop :=
  (∀ s : State, AtReset s → Inv s) ∧ AtReset State.reset

/-- R34 to R40: what the registers hold in each of the nine control states, in every state a run from reset reaches, for
every legal configuration and every stimulus. The last clause says that RAW0 and RAW1 are completed words (R37): each is ACC as
it stood, 24 bits of it, when a marker ended the word after exactly 24 doublings, and is kept from then on. -/
def Obligations.ReachableRegistersObeyTheInvariants : Prop :=
  ∀ s : State, Reachable s →
    s.regs.state.toNat ≤ 8 ∧
    (s.regs.state = sSyncArm ∨ s.regs.state = sSyncWait → s.regs = { Regs.reset with state := s.regs.state }) ∧
    (s.regs.state = sSyncMeas → s.regs = { Regs.reset with state := sSyncMeas, dur := s.regs.dur } ∧
      1 ≤ s.regs.dur.toNat ∧ s.regs.dur.toNat ≤ 2 ^ s.cfg.cw - 1) ∧
    (s.regs.state = sBitSample ∨ s.regs.state = sBitWait ∨ s.regs.state = sBitMeas →
      s.regs.err = 0#3 ∧ s.regs.meas0 = 0#64 ∧ s.regs.meas1 = 0#64 ∧ s.regs.raw1 = 0#24 ∧
      (s.regs.widx = 0#1 → s.regs.raw0 = 0#24)) ∧
    (s.regs.state = sBitSample → (∃ n, n ≤ s.cfg.maxDoublings - 1 ∧ s.regs.weight.toNat = 2 ^ n) ∧
      s.regs.acc.toNat < s.regs.weight.toNat ∧ s.regs.dur = 0#32) ∧
    (s.regs.state = sBitWait → (∃ n, n ≤ s.cfg.maxDoublings - 1 ∧ s.regs.weight.toNat = 2 ^ n) ∧
      s.regs.acc.toNat < 2 * s.regs.weight.toNat ∧ s.regs.dur = 0#32) ∧
    (s.regs.state = sBitMeas → (∃ n, 1 ≤ n ∧ n ≤ s.cfg.maxDoublings ∧ s.regs.weight.toNat = 2 ^ n) ∧
      s.regs.acc.toNat < s.regs.weight.toNat ∧ 1 ≤ s.regs.dur.toNat ∧ s.regs.dur.toNat ≤ 2 ^ s.cfg.cw - 1) ∧
    (s.regs.state = sConvert →
      s.regs = { Regs.reset with state := sConvert, widx := 1#1, raw0 := s.regs.raw0, raw1 := s.regs.raw1 }) ∧
    (s.regs.state = sEmit →
      s.regs = { Regs.reset with state := sEmit, widx := 1#1, raw0 := s.regs.raw0, raw1 := s.regs.raw1,
                                 meas0 := mm s.cfg.scale s.regs.raw0, meas1 := fneg (mm s.cfg.scale s.regs.raw1) }) ∧
    (s.regs.state = sDiscard →
      (s.regs.err = 0b001#3 ∨ s.regs.err = 0b010#3 ∨ s.regs.err = 0b100#3) ∧ s.regs.dur = 0#32 ∧ s.regs.meas0 = 0#64 ∧
      s.regs.meas1 = 0#64 ∧ s.regs.raw1 = 0#24 ∧
      exec .discard s = .next { s with regs := Regs.reset, events := s.events ++ [⟨s.tickNo, .discard s.regs.err⟩] }) ∧
    ∀ t : State, step s = .next t →
      (s.regs.widx = 0#1 → t.regs.widx = 1#1 → s.regs.state = sBitMeas ∧ s.cfg.threshold ≤ s.regs.dur.toNat ∧
        s.regs.weight.toNat = 2 ^ 24 ∧ t.regs.raw0.toNat = s.regs.acc.toNat) ∧
      (s.regs.widx = 1#1 → t.regs.widx = 1#1 → t.regs.raw0 = s.regs.raw0) ∧
      (s.regs.state ≠ sConvert → t.regs.state = sConvert → s.regs.state = sBitMeas ∧ s.regs.widx = 1#1 ∧
        s.cfg.threshold ≤ s.regs.dur.toNat ∧ s.regs.weight.toNat = 2 ^ 24 ∧ t.regs.raw1.toNat = s.regs.acc.toNat) ∧
      (s.regs.state = sConvert ∨ s.regs.state = sEmit → t.regs.state = sConvert ∨ t.regs.state = sEmit →
        t.regs.raw1 = s.regs.raw1)

/-- The registers with configured widths (R17, R18, R20) never hold more than their width, and the configuration never
changes (R30): kept by every step from every state in which they fit, reachable or not. In states no run reaches it is the
model's cutting of a written value to the width that keeps it so (log 5). That the configuration does not change at edges with
`rst = 1` either is the model's choice (log 11). -/
def Obligations.RegistersStayInsideTheirWidths : Prop :=
  ∀ s t : State, RegsFit s.cfg s.regs → step s = .next t → RegsFit t.cfg t.regs ∧ t.cfg = s.cfg

/-- R14, R114, R131: no run from reset ever stops: in every state a run reaches, the step answers a next state. -/
def Obligations.ReachableStatesAlwaysStep : Prop :=
  ∀ s : State, Reachable s → ∃ t, step s = .next t

/-- R110: at a tick, from every state with the invariant (so in every run), the doc-level state moves along an edge of the
state graph, and CONVERTING is only reached with an empty Error Set. -/
def Obligations.TicksFollowTheStateGraph : Prop :=
  ∀ (s t : State) (c d : Bool), Inv s → s.pins = tickPins c d → step s = .next t →
    (∃ a b, s.regs.docState = some a ∧ t.regs.docState = some b ∧ (a, b) ∈ docEdges) ∧
    (t.regs.docState = some .converting → t.regs.err = 0#3)

/-! ### Events and errors -/

/-- R47: a step produces at most one event, only at a tick; an Emit only in S_EMIT, with the registers' values, and a Discard
only in S_DISCARD, with the Error Set; and it does produce them there. -/
def Obligations.EventsComeFromEmitAndDiscardOnly : Prop :=
  ∀ s t : State, step s = .next t →
    t.events =
      if s.pins.rst = false ∧ s.pins.tick = true ∧ s.regs.state = sEmit then
        s.events ++ [⟨s.tickNo, .emit s.regs.raw0 s.regs.raw1 s.regs.meas0 s.regs.meas1⟩]
      else if s.pins.rst = false ∧ s.pins.tick = true ∧ s.regs.state = sDiscard then
        s.events ++ [⟨s.tickNo, .discard s.regs.err⟩]
      else s.events

/-- Every Discard event of a run from reset carries exactly one flag (R129). And a step from a state with the invariant
leaves every Emit event with the measurements of its own raw words (R38, R106). -/
def Obligations.DeliveredEventsAreWellFormed : Prop :=
  (∀ (s : State) (x : Emission) (e : BitVec 3), Reachable s → x ∈ s.events → x.event = .discard e →
      e = 0b001#3 ∨ e = 0b010#3 ∨ e = 0b100#3) ∧
    ∀ (s t : State) (x : Emission) (a b : Raw) (m n : F64), Inv s → step s = .next t → x ∈ t.events →
      x.event = .emit a b m n → m = mm t.cfg.scale a ∧ n = fneg (mm t.cfg.scale b)

/-- R124, R125, from every state with the invariant (so in every run): a tick that detects an error sets one flag and goes to
S_DISCARD, and keeps WIDX, ACC, WEIGHT and the raw words; the next tick, whatever the line levels, delivers exactly that Error
Set and leaves the block in its reset state. -/
def Obligations.ErrorEntryAndReturnArePrecise : Prop :=
  ∀ (s t : State) (c d c' d' : Bool) (l : List Pins), Inv s →
    s.stimulus = tickPins c d :: tickPins c' d' :: l → step s = .next t → t.regs.state = sDiscard →
    (t.regs.widx = s.regs.widx ∧ t.regs.acc = s.regs.acc ∧ t.regs.weight = s.regs.weight ∧
      t.regs.raw0 = s.regs.raw0 ∧ t.regs.raw1 = s.regs.raw1 ∧ t.events = s.events) ∧
    (t.regs.err = 0b001#3 ∧ s.regs.state = sSyncMeas ∨ t.regs.err = 0b010#3 ∧ s.regs.state = sBitSample ∨
      t.regs.err = 0b100#3 ∧ s.regs.state = sBitMeas) ∧
    step t = .next { cfg := s.cfg, regs := Regs.reset, stimulus := l, edge := s.edge + 2, tickNo := s.tickNo + 2,
                     events := s.events ++ [⟨s.tickNo + 1, .discard t.regs.err⟩] }

/-- R32: the output ports are functions of the registers, gated to 0 outside their event; an event is delivered exactly at a
tick with its strobe at 1, and is what the payload ports show; between ticks the ports hold. -/
def Obligations.OutputPortsAreGated : Prop :=
  (∀ r : Regs,
    (r.ports.emitValid = true ↔ r.state = sEmit) ∧ (r.ports.discardValid = true ↔ r.state = sDiscard) ∧
    (r.state = sEmit →
      r.ports.raw0 = r.raw0 ∧ r.ports.raw1 = r.raw1 ∧ r.ports.meas0 = r.meas0 ∧ r.ports.meas1 = r.meas1) ∧
    (r.state ≠ sEmit → r.ports.raw0 = 0#24 ∧ r.ports.raw1 = 0#24 ∧ r.ports.meas0 = 0#64 ∧ r.ports.meas1 = 0#64) ∧
    (r.state = sDiscard → r.ports.err = r.err) ∧ (r.state ≠ sDiscard → r.ports.err = 0#3)) ∧
  ∀ s t : State, step s = .next t →
    (s.pins.rst = false → s.pins.tick = false → t.regs.ports = s.regs.ports) ∧
    t.events =
      if s.pins.rst = false ∧ s.pins.tick = true ∧ s.regs.ports.emitValid = true then
        s.events ++ [⟨s.tickNo, .emit s.regs.ports.raw0 s.regs.ports.raw1 s.regs.ports.meas0 s.regs.ports.meas1⟩]
      else if s.pins.rst = false ∧ s.pins.tick = true ∧ s.regs.ports.discardValid = true then
        s.events ++ [⟨s.tickNo, .discard s.regs.ports.err⟩]
      else s.events

/-- R16: the doc-level state is a function of STATE and WIDX. -/
def Obligations.DocStateIsTheMapping : Prop :=
  ∀ r : Regs,
    (r.docState = some .syncing ↔ r.state = sSyncArm ∨ r.state = sSyncWait ∨ r.state = sSyncMeas) ∧
    (r.docState = some .receivingWord0 ↔
      (r.state = sBitSample ∨ r.state = sBitWait ∨ r.state = sBitMeas) ∧ r.widx = 0#1) ∧
    (r.docState = some .receivingWord1 ↔
      (r.state = sBitSample ∨ r.state = sBitWait ∨ r.state = sBitMeas) ∧ r.widx = 1#1) ∧
    (r.docState = some .converting ↔ r.state = sConvert) ∧ (r.docState = some .emit ↔ r.state = sEmit) ∧
    (r.docState = some .discard ↔ r.state = sDiscard)

/-- R118: idempotent re-synchronisation. The step after any discarded or emitted frame leaves every register at its reset
value; and from then on what the block does depends only on the configuration and the coming stimulus: two machines with the
same configuration, registers and stimulus, whatever their pasts, run alike and produce the same events at the same distance
in ticks. -/
def Obligations.NothingOfAFrameOutlivesItsEvent : Prop :=
  (∀ (s : State) (c d : Bool), s.tickAt sEmit c d ∨ s.tickAt sDiscard c d →
      ∃ t, step s = .next t ∧ t.regs = Regs.reset) ∧
    ∀ (k : Nat) (s u t : State), s.cfg = u.cfg → s.regs = u.regs → s.stimulus = u.stimulus → k ≤ s.stimulus.length →
      Host.Core.run core k s = .next t →
      ∃ (v : State) (l : List Emission), Host.Core.run core k u = .next v ∧ v.regs = t.regs ∧ v.stimulus = t.stimulus ∧
        t.events = s.events ++ l.map (fun x => ⟨s.tickNo + x.tick, x.event⟩) ∧
        v.events = u.events ++ l.map (fun x => ⟨u.tickNo + x.tick, x.event⟩)

/-! ### Pulses, words and frames -/

/-- R154: the waits have no time-out: after any number of ticks at the level that holds it, the block is where it was, with
every register unchanged and no event. -/
def Obligations.WaitsAreUnbounded : Prop :=
  ∀ (s : State) (ds : List Bool) (l : List Pins), s.cfg.legal = true →
    (s.regs.state = sSyncArm ∧ s.stimulus = ds.map (tickPins true) ++ l ∨
      (s.regs.state = sSyncWait ∨ s.regs.state = sBitWait) ∧ s.stimulus = ds.map (tickPins false) ++ l) →
    Host.Core.run core ds.length s =
      .next { s with stimulus := l, edge := s.edge + ds.length, tickNo := s.tickNo + ds.length }

/-- R85, R94, R154, R155: a pulse of any length is counted up to 2^CW - 1 and there is no bound on it; saturation never
changes how it is classified. -/
def Obligations.PulsesAreCountedWithHarmlessSaturation : Prop :=
  ∀ (s : State) (ds : List Bool) (l : List Pins), s.cfg.legal = true →
    s.regs.state = sSyncMeas ∨ s.regs.state = sBitMeas → s.regs.dur.toNat ≤ 2 ^ s.cfg.cw - 1 →
    s.stimulus = ds.map (tickPins true) ++ l →
    ∃ v : BitVec 32, v.toNat = min (s.regs.dur.toNat + ds.length) (2 ^ s.cfg.cw - 1) ∧
      (s.cfg.threshold ≤ v.toNat ↔ s.cfg.threshold ≤ s.regs.dur.toNat + ds.length) ∧
      Host.Core.run core ds.length s =
        .next { s with regs := { s.regs with dur := v }, stimulus := l, edge := s.edge + ds.length,
                       tickNo := s.tickNo + ds.length }

/-- R144: the first tick after reset runs SYNC.ARM.GO if the clock line is low and SYNC.ARM.HOLD if it is high; and the block
waits for the clock line to be sampled low, however long it is high, without measuring anything. -/
def Obligations.AfterResetAPulseInProgressIsSkipped : Prop :=
  (∀ (s : State) (c d : Bool), s.regs = Regs.reset → s.pins = tickPins c d →
    decode s.sel s.guards = .ok (if c then .syncArmHold else .syncArmGo)) ∧
  ∀ (s : State) (ds : List Bool) (d : Bool) (l : List Pins), s.cfg.legal = true → s.regs = Regs.reset →
    s.stimulus = ds.map (tickPins true) ++ tickPins false d :: l →
    Host.Core.run core (ds.length + 1) s =
      .next { s with regs := { Regs.reset with state := sSyncWait }, stimulus := l, edge := s.edge + (ds.length + 1),
                     tickNo := s.tickNo + (ds.length + 1) }

/-- R88: what the synchroniser does with a pulse. From S_SYNC_WAIT, after any low ticks, a pulse of k >= 1 ticks and one low
tick, whatever comes after: the low tick runs SYNC.MEAS.ACCEPT exactly if k >= THRESHOLD, and then the block is ready to
sample bit 0 of word 0; otherwise it runs SYNC.MEAS.SHORT and the block is in S_DISCARD. One tick later, at any line levels,
the event is Discard(0b001) and the block is in S_SYNC_ARM with every register at its reset value; and if the tick after that
is low, it is then in S_SYNC_WAIT again. -/
def Obligations.SynchroniserClassifiesEveryPulse : Prop :=
  ∀ (s : State) (lows highs : List Bool) (d : Bool) (l : List Pins), s.cfg.legal = true →
    s.regs = { Regs.reset with state := sSyncWait } → highs ≠ [] →
    s.stimulus = lows.map (tickPins false) ++ (highs.map (tickPins true) ++ tickPins false d :: l) →
    let n := lows.length + highs.length + 1
    (∃ u, Host.Core.run core (n - 1) s = .next u ∧ u.pins = tickPins false d ∧
      decode u.sel u.guards = .ok (if s.cfg.threshold ≤ highs.length then .syncMeasAccept else .syncMeasShort)) ∧
    (s.cfg.threshold ≤ highs.length →
      Host.Core.run core n s = .next { s with
        regs := { Regs.reset with state := sBitSample }, stimulus := l, edge := s.edge + n, tickNo := s.tickNo + n }) ∧
    (highs.length < s.cfg.threshold →
      Host.Core.run core n s = .next { s with
        regs := { Regs.reset with state := sDiscard, err := 0b001#3 },
        stimulus := l, edge := s.edge + n, tickNo := s.tickNo + n } ∧
      (∀ (c' d' : Bool) (l' : List Pins), l = tickPins c' d' :: l' →
        Host.Core.run core (n + 1) s = .next { s with
          regs := Regs.reset, stimulus := l', edge := s.edge + (n + 1), tickNo := s.tickNo + (n + 1),
          events := s.events ++ [⟨s.tickNo + n, .discard 0b001#3⟩] }) ∧
      ∀ (c' d' d'' : Bool) (l' : List Pins), l = tickPins c' d' :: tickPins false d'' :: l' →
        Host.Core.run core (n + 2) s = .next { s with
          regs := { Regs.reset with state := sSyncWait }, stimulus := l', edge := s.edge + (n + 2),
          tickNo := s.tickNo + (n + 2), events := s.events ++ [⟨s.tickNo + n, .discard 0b001#3⟩] })

/-- R100, the well-framed word: from the Word Receiver's entry state, 24 cells that carry a word v (any timing: the first
sampling instant at once, every later low phase of two ticks or more, short pulses, and a marker at the end) and one low
tick: v is stored as the word WIDX names, and nothing else happens. -/
def Obligations.WellFramedWordIsReceived : Prop :=
  ∀ (s : State) (cells : List Cell) (v : Raw) (d : Bool) (l : List Pins), s.cfg.legal = true →
    s.regs.state = sBitSample → s.regs.acc = 0#63 → s.regs.weight = 1#64 → s.regs.dur = 0#32 →
    WireWord s.cfg cells v → s.stimulus = (cellTicks cells).tail ++ tickPins false d :: l →
    let n := (cellTicks cells).length
    Host.Core.run core n s = .next { s with
      regs := if s.regs.widx = 0#1 then { s.regs with raw0 := v, widx := 1#1 }
              else { s.regs with raw1 := v, state := sConvert },
      stimulus := l, edge := s.edge + n, tickNo := s.tickNo + n }

/-- R100 with R90, R93, R95, R96 and R99, the badly framed words: from the Word Receiver's entry state, n >= 1 cells that carry the low bits of v, at most
MAX_DOUBLINGS of them, all but the last closed by short pulses, and one low tick. If the last pulse is a marker and n is not
24, or if n is MAX_DOUBLINGS and the last pulse is short too, the result is WordLengthMismatch: nothing is stored, ACC and
WEIGHT are left as the n cells made them. If the last pulse is short and n is smaller, the next bit is awaited. -/
def Obligations.BadlyFramedWordsAreRejected : Prop :=
  ∀ (s : State) (init : List Cell) (last : Cell) (v : Nat) (d : Bool) (l : List Pins), s.cfg.legal = true →
    s.regs.state = sBitSample → s.regs.acc = 0#63 → s.regs.weight = 1#64 → s.regs.dur = 0#32 →
    init.length + 1 ≤ s.cfg.maxDoublings → CellsCarry (init ++ [last]) v → (∀ x ∈ init, x.short s.cfg) →
    s.stimulus = (cellTicks (init ++ [last])).tail ++ tickPins false d :: l →
    let n := init.length + 1
    let k := (cellTicks (init ++ [last])).length
    ∃ (a : BitVec 63) (w : BitVec 64), a.toNat = v % 2 ^ n ∧ w.toNat = 2 ^ n ∧
      (last.marker s.cfg ∧ n ≠ 24 ∨ last.short s.cfg ∧ n = s.cfg.maxDoublings →
        Host.Core.run core k s = .next { s with
          regs := { s.regs with acc := a, weight := w, err := s.regs.err ||| 0b100#3, state := sDiscard },
          stimulus := l, edge := s.edge + k, tickNo := s.tickNo + k }) ∧
      (last.short s.cfg ∧ n < s.cfg.maxDoublings →
        Host.Core.run core k s = .next { s with
          regs := { s.regs with acc := a, weight := w }, stimulus := l, edge := s.edge + k, tickNo := s.tickNo + k })

/-- R100 in its own notation: from the Word Receiver's entry state, `WORDN(v, n; lo, hi, mk)` and one low tick. With
mk >= THRESHOLD no error is raised and no event produced before the low tick, n bits have been sampled, and the low tick runs
BIT.MEAS.WORD0 or BIT.MEAS.WORD1 with ACC[23:0] = v[23:0] if n = 24 and BIT.MEAS.BADLEN otherwise. With MAX_DOUBLINGS cells
all closed by short pulses the low tick runs BIT.MEAS.BOUND. -/
def Obligations.WordMacroIsClassified : Prop :=
  ∀ (s : State) (v n lo hi mk : Nat) (d : Bool) (l : List Pins), s.cfg.legal = true →
    s.regs.state = sBitSample → s.regs.acc = 0#63 → s.regs.weight = 1#64 → s.regs.dur = 0#32 →
    2 ≤ lo → 1 ≤ hi → hi < s.cfg.threshold → 1 ≤ n → n ≤ s.cfg.maxDoublings →
    s.stimulus = stimulusOf (wordN v n lo hi mk) ++ tickPins false d :: l →
    (s.cfg.threshold ≤ mk →
      ∃ u, Host.Core.run core (wordN v n lo hi mk).length s = .next u ∧ u.events = s.events ∧
        u.regs.err = s.regs.err ∧ u.regs.acc.toNat = v % 2 ^ n ∧ u.regs.weight.toNat = 2 ^ n ∧
        decode u.sel u.guards = .ok
          (if n = 24 then (if s.regs.widx = 0#1 then .bitMeasWord0 else .bitMeasWord1) else .bitMeasBadlen) ∧
        (n = 24 → u.regs.acc.extractLsb' 0 24 = BitVec.ofNat 24 v)) ∧
    (mk = hi → n = s.cfg.maxDoublings →
      ∃ u, Host.Core.run core (wordN v n lo hi mk).length s = .next u ∧ u.events = s.events ∧
        decode u.sel u.guards = .ok .bitMeasBound)

/-- R160, the well-formed-frame theorem: from the reset state, at least one idle low tick, a start marker, two well-framed
words with any legal timing, one low tick and two ticks with any levels: exactly one event, at the last tick, and it is
Emit(v0, v1, mm(v0), fneg(mm(v1))); the block is then in its reset state. -/
def Obligations.WellFormedFramesAreDecoded : Prop :=
  ∀ (s : State) (g m : List Bool) (w0 w1 : List Cell) (v0 v1 : Raw) (d c' d' c'' d'' : Bool) (l : List Pins),
    s.cfg.legal = true → s.regs = Regs.reset → g ≠ [] → s.cfg.threshold ≤ m.length →
    WireWord s.cfg w0 v0 → WireWord s.cfg w1 v1 →
    s.stimulus = g.map (tickPins false) ++ (m.map (tickPins true) ++ (cellTicks w0 ++ (cellTicks w1 ++
      (tickPins false d :: tickPins c' d' :: tickPins c'' d'' :: l)))) →
    let n := g.length + m.length + (cellTicks w0).length + (cellTicks w1).length + 3
    Host.Core.run core n s = .next { s with
      stimulus := l, edge := s.edge + n, tickNo := s.tickNo + n,
      events := s.events ++ [⟨s.tickNo + n - 1, .emit v0 v1 (mm s.cfg.scale v0) (fneg (mm s.cfg.scale v1))⟩] }

/-- R78, R79: the lengths of the stimulus macros. -/
def Obligations.MacroLengths : Prop :=
  (∀ v n lo hi mk, 1 ≤ n → (wordN v n lo hi mk).length = n * lo + (n - 1) * hi + mk) ∧
    (∀ v lo hi mk, (word v lo hi mk).length = 24 * lo + 23 * hi + mk) ∧
    ∀ v0 v1 lo hi mk, (frame v0 v1 lo hi mk).length = 3 * mk + 48 * lo + 46 * hi

/-- R159, with the uniform frame of R160: `IDLE(g) FRAME(v0, v1; lo, hi, mk) IDLE(3)` from the reset state is decoded, and
its one event appears at tick E + 3, E the last high tick of the frame. -/
def Obligations.UniformFrameEventTick : Prop :=
  ∀ (s : State) (g lo hi mk : Nat) (v0 v1 : Raw) (l : List Pins),
    s.cfg.legal = true → s.regs = Regs.reset → s.tickNo = 0 → 1 ≤ g → 2 ≤ lo → 1 ≤ hi → hi < s.cfg.threshold →
    s.cfg.threshold ≤ mk →
    s.stimulus = stimulusOf (idle g ++ frame v0.toNat v1.toNat lo hi mk ++ idle 3) ++ l →
    let e := g + (3 * mk + 48 * lo + 46 * hi) - 1
    Host.Core.run core (e + 4) s = .next { s with
      stimulus := l, edge := s.edge + (e + 4), tickNo := e + 4,
      events := s.events ++ [⟨e + 3, .emit v0 v1 (mm s.cfg.scale v0) (fneg (mm s.cfg.scale v1))⟩] }

/-- R152: the blind ticks after a good frame: from S_CONVERT, two ticks with any levels end in the Emit event and the reset
state, and a clock line that is then high is waited out, not measured: the block reaches S_SYNC_WAIT only after a low
tick. -/
def Obligations.BlindTicksAfterAGoodFrame : Prop :=
  ∀ (s : State) (c d c' d' : Bool) (highs : List Bool) (e : Bool) (l : List Pins), s.cfg.legal = true →
    s.regs.state = sConvert →
    s.stimulus = tickPins c d :: tickPins c' d' :: (highs.map (tickPins true) ++ tickPins false e :: l) →
    Host.Core.run core (highs.length + 3) s = .next { s with
      regs := { Regs.reset with state := sSyncWait }, stimulus := l, edge := s.edge + (highs.length + 3),
      tickNo := s.tickNo + (highs.length + 3),
      events := s.events ++ [⟨s.tickNo + 1, .emit s.regs.raw0 s.regs.raw1 (mm s.cfg.scale s.regs.raw0)
        (fneg (mm s.cfg.scale s.regs.raw1))⟩] }

/-- R157: after a ClockGlitch the pulse in progress is skipped, not measured: the report comes at the next tick, and the
block reaches S_SYNC_WAIT only after a low tick. -/
def Obligations.PulseAfterAGlitchIsSkipped : Prop :=
  ∀ (s : State) (d c' d' : Bool) (highs : List Bool) (e : Bool) (l : List Pins), s.cfg.legal = true →
    s.regs.state = sBitSample → s.regs.err = 0#3 →
    s.stimulus = tickPins true d :: tickPins c' d' :: (highs.map (tickPins true) ++ tickPins false e :: l) →
    Host.Core.run core (highs.length + 3) s = .next { s with
      regs := { Regs.reset with state := sSyncWait }, stimulus := l, edge := s.edge + (highs.length + 3),
      tickNo := s.tickNo + (highs.length + 3), events := s.events ++ [⟨s.tickNo + 1, .discard 0b010#3⟩] }

/-! ### The Value Converter -/

/-- R101: `sint24` masks to 24 bits and reads them as two's complement: its definition, its range, and its corner values. -/
def Obligations.SignExtensionIsTwosComplement : Prop :=
  (∀ v : Nat, sint24 (BitVec.ofNat 24 v) =
      if (v % 2 ^ 24).testBit 23 then ((v % 2 ^ 24 : Nat) : Int) - 2 ^ 24 else ((v % 2 ^ 24 : Nat) : Int)) ∧
  (∀ v : Raw, sint24 v = v.toInt ∧ -8388608 ≤ sint24 v ∧ sint24 v ≤ 8388607 ∧ sint24 v % 2 ^ 24 = (v.toNat : Int)) ∧
    sint24 0x000000#24 = 0 ∧ sint24 0x7FFFFF#24 = 8388607 ∧ sint24 0x800000#24 = -8388608 ∧ sint24 0xFFFFFF#24 = -1

/-- R102: the integer conversion is exact for every integer of magnitude at most 2^53, every value of `sint24` is in that
range, and 0 converts to +0.0. -/
def Obligations.IntegerConversionIsExact : Prop :=
  (∀ s : Int, s.natAbs ≤ 2 ^ 53 → f64Ok (i2f s) ∧ f64Value (i2f s) = (s : ℚ)) ∧
    (∀ v : Raw, (sint24 v).natAbs ≤ 2 ^ 53) ∧ i2f 0 = 0x0000000000000000#64

/-- R103: the product of two zero or normal numbers. A zero operand gives the zero of the product's sign. Otherwise, where
the exact magnitude x of the product is at least 2^-1022 and does not round up past the largest normal number, the result is
normal, has the sign of the product, and its magnitude is a multiple q of u = 2^(e - 52), e = floor(log2 x), nearest to x, and even where two are
equally near. -/
def Obligations.ProductIsRoundedToNearestEven : Prop :=
  ∀ a b : F64, f64Ok a → f64Ok b →
    (f64IsZero a = true ∨ f64IsZero b = true →
      f64IsZero (fmul a b) = true ∧ f64Sign (fmul a b) = (f64Sign a != f64Sign b)) ∧
    ∀ e : ℤ, (2 : ℚ) ^ e ≤ |f64Value a * f64Value b| → |f64Value a * f64Value b| < (2 : ℚ) ^ (e + 1) → -1022 ≤ e →
      |f64Value a * f64Value b| < 2 ^ 1024 - 2 ^ 970 →
      f64IsNormal (fmul a b) = true ∧ f64Sign (fmul a b) = (f64Sign a != f64Sign b) ∧
      ∃ q : ℕ, |f64Value (fmul a b)| = q * (2 : ℚ) ^ (e - 52) ∧
        |(|f64Value a * f64Value b|) - q * (2 : ℚ) ^ (e - 52)| ≤ (2 : ℚ) ^ (e - 52) / 2 ∧
        (|(|f64Value a * f64Value b|) - q * (2 : ℚ) ^ (e - 52)| = (2 : ℚ) ^ (e - 52) / 2 → q % 2 = 0)

/-- R104: `fneg` inverts bit 63 and nothing else, negates the value, undoes itself, and takes +0.0 to -0.0 and back. -/
def Obligations.NegationFlipsTheSignBitOnly : Prop :=
  (∀ (a : F64) (j : Nat), (fneg a).getLsbD j = if j = 63 then !a.getLsbD 63 else a.getLsbD j) ∧
    (∀ a : F64, f64Ok a → f64Ok (fneg a) ∧ f64Value (fneg a) = -f64Value a) ∧ (∀ a : F64, fneg (fneg a) = a) ∧
    fneg 0x0000000000000000#64 = 0x8000000000000000#64 ∧ fneg 0x8000000000000000#64 = 0x0000000000000000#64

/-- R105: the millimetre value, and the six bit patterns the rule gives for the default SCALE. -/
def Obligations.MillimetreValuesOfTheDefaultScale : Prop :=
  (∀ (scale : F64) (raw : Raw), mm scale raw = fmul (i2f (sint24 raw)) scale) ∧
    mm 0x3F5451E6D28776D7#64 0x000000#24 = 0x0000000000000000#64 ∧
    mm 0x3F5451E6D28776D7#64 0x000001#24 = 0x3F5451E6D28776D7#64 ∧
    mm 0x3F5451E6D28776D7#64 0x002800#24 = 0x402966608729548D#64 ∧
    mm 0x3F5451E6D28776D7#64 0x7FFFFF#24 = 0x40C451E6A9E3A932#64 ∧
    mm 0x3F5451E6D28776D7#64 0x800000#24 = 0xC0C451E6D28776D7#64 ∧
    mm 0x3F5451E6D28776D7#64 0xFFFFFF#24 = 0xBF5451E6D28776D7#64

/-- R108: for every legal configuration a measurement is a zero, exactly for the raw word 0, or a normal number of magnitude
between SCALE and 2^23 * SCALE: never subnormal, infinite or NaN. -/
def Obligations.MeasurementsAreZeroOrNormal : Prop :=
  ∀ (c : Config) (raw : Raw), c.legal = true →
    (sint24 raw = 0 ↔ f64IsZero (mm c.scale raw) = true) ∧
    (sint24 raw ≠ 0 → f64IsNormal (mm c.scale raw) = true ∧ f64Value c.scale ≤ |f64Value (mm c.scale raw)| ∧
      |f64Value (mm c.scale raw)| ≤ 2 ^ 23 * f64Value c.scale)

/-- What R109 checks for two scales by binary64 division, here for every legal configuration (by R101 to R103 and R108) and in
exact arithmetic: a
measurement is within half an increment of its exact value, so the raw word can be read back from it, and `mm` is strictly
increasing in the signed raw value and injective. -/
def Obligations.MeasurementsRoundTripAndAreMonotone : Prop :=
  ∀ c : Config, c.legal = true →
    (∀ raw : Raw, |f64Value (mm c.scale raw) / f64Value c.scale - (sint24 raw : ℚ)| < 1 / 2) ∧
    (∀ a b : Raw, sint24 a < sint24 b → f64Value (mm c.scale a) < f64Value (mm c.scale b)) ∧
    ∀ a b : Raw, mm c.scale a = mm c.scale b → a = b
end

