-- ==== Sys2Proof/Laws/Binary64.lean ====
section
/-! SUPPORT. What the binary64 operations do, said once: the fields of a packed pattern, rounding to the nearest integer, and
the number a pattern denotes (spec/30_encoding.md R66, spec/42_value_converter.md R103). -/

namespace Sys2Proof.Machine

/-- The bits of a packed pattern. -/
theorem f64Pack_getLsbD (s : Bool) (e f i : Nat) : (f64Pack s e f).getLsbD i =
    if i < 52 then (BitVec.ofNat 52 f).getLsbD i
    else if i < 63 then (BitVec.ofNat 11 e).getLsbD (i - 52) else (BitVec.ofBool s).getLsbD (i - 63) := by
  have h := BitVec.getLsbD_append (x := BitVec.ofBool s ++ BitVec.ofNat 11 e) (y := BitVec.ofNat 52 f) (i := i)
  refine h.trans ?_
  rw [BitVec.getLsbD_append (x := BitVec.ofBool s) (y := BitVec.ofNat 11 e) (i := i - 52)]
  by_cases h1 : i < 52
  · simp [h1]
  · by_cases h2 : i < 63
    · simp [h1, h2, show i - 52 < 11 by omega]
    · simp [h1, h2, show ¬ i - 52 < 11 by omega, show i - 52 - 11 = i - 63 by omega]

@[simp] theorem f64Sign_f64Pack (s : Bool) (e f : Nat) : f64Sign (f64Pack s e f) = s := by
  rw [f64Sign, f64Pack_getLsbD]; cases s <;> rfl

@[simp] theorem f64Exp_f64Pack (s : Bool) (e f : Nat) : f64Exp (f64Pack s e f) = e % 2048 := by
  have h : (f64Pack s e f).extractLsb' 52 11 = BitVec.ofNat 11 e := by
    refine BitVec.eq_of_getLsbD_eq fun i hi => ?_
    rw [BitVec.getLsbD_extractLsb', f64Pack_getLsbD]
    simp [hi, show ¬ 52 + i < 52 by omega, show 52 + i < 63 by omega]
  rw [f64Exp, h, BitVec.toNat_ofNat]

@[simp] theorem f64Frac_f64Pack (s : Bool) (e f : Nat) : f64Frac (f64Pack s e f) = f % 2 ^ 52 := by
  have h : (f64Pack s e f).extractLsb' 0 52 = BitVec.ofNat 52 f := by
    refine BitVec.eq_of_getLsbD_eq fun i hi => ?_
    rw [BitVec.getLsbD_extractLsb', f64Pack_getLsbD]
    simp [hi]
  rw [f64Frac, h, BitVec.toNat_ofNat]

/-- `roundEven` is within half a unit, and even when it is exactly half a unit off. -/
theorem roundEven_spec (m sh : Nat) :
    2 * (roundEven m sh * 2 ^ sh) ≤ 2 * m + 2 ^ sh ∧ 2 * m ≤ 2 * (roundEven m sh * 2 ^ sh) + 2 ^ sh ∧
      (2 * (roundEven m sh * 2 ^ sh) = 2 * m + 2 ^ sh ∨ 2 * m = 2 * (roundEven m sh * 2 ^ sh) + 2 ^ sh →
        roundEven m sh % 2 = 0) := by
  have hm := Nat.div_add_mod m (2 ^ sh)
  have hr := Nat.mod_lt m (Nat.two_pow_pos sh)
  unfold roundEven
  simp only
  generalize m / 2 ^ sh = q at *
  generalize m % 2 ^ sh = r at *
  generalize 2 ^ sh = P at *
  have e1 : (q + 1) * P = P * q + P := by ring
  have e2 : q * P = P * q := by ring
  split
  · rename_i h; rw [e1]; refine ⟨by omega, by omega, fun _ => by omega⟩
  · rename_i h; rw [e2]; refine ⟨by omega, by omega, fun _ => by omega⟩

/-- A normal pattern is no zero. -/
theorem f64IsZero_of_normal {a : F64} (h : f64IsNormal a = true) : f64IsZero a = false := by
  simp only [f64IsNormal, Bool.and_eq_true, decide_eq_true_eq] at h
  simp only [f64IsZero, Bool.and_eq_false_iff, beq_eq_false_iff_ne]
  omega

/-- The number a normal pattern denotes. -/
theorem f64Value_of_normal {a : F64} (h : f64IsNormal a = true) :
    f64Value a = (if f64Sign a then -1 else 1) * (f64Significand a : ℚ) * (2 : ℚ) ^ ((f64Exp a : ℤ) - 1075) := by
  simp [f64Value, f64IsZero_of_normal h]

end Sys2Proof.Machine
end

