-- ==== Sys2Proof/Laws/Config.lean ====
section
/-! SUPPORT. What a legal configuration gives (spec/00_scope.md R6 to R11). -/

namespace Sys2Proof

theorem Config.legal_iff (c : Config) : c.legal = true ↔
    c.cwLegal = true ∧ c.thresholdLegal = true ∧ c.wordBitsLegal = true ∧ c.maxDoublingsLegal = true ∧
      c.scaleLegal = true := by
  simp [Config.legal, and_assoc]

theorem Config.cw_of_legal {c : Config} (h : c.legal = true) : 2 ≤ c.cw ∧ c.cw ≤ 32 := by
  simpa [Config.cwLegal] using (c.legal_iff.1 h).1

theorem Config.threshold_of_legal {c : Config} (h : c.legal = true) : 2 ≤ c.threshold ∧ c.threshold ≤ 2 ^ c.cw - 1 := by
  simpa [Config.thresholdLegal] using (c.legal_iff.1 h).2.1

theorem Config.wordBits_of_legal {c : Config} (h : c.legal = true) : c.wordBits = 24 := by
  simpa [Config.wordBitsLegal] using (c.legal_iff.1 h).2.2.1

theorem Config.maxDoublings_of_legal {c : Config} (h : c.legal = true) : 25 ≤ c.maxDoublings ∧ c.maxDoublings ≤ 63 := by
  simpa [Config.maxDoublingsLegal] using (c.legal_iff.1 h).2.2.2.1

theorem Config.scale_of_legal {c : Config} (h : c.legal = true) :
    c.scale.getLsbD 63 = false ∧ 1 ≤ (c.scale.extractLsb' 52 11).toNat ∧ (c.scale.extractLsb' 52 11).toNat < 2024 := by
  simpa [Config.scaleLegal, and_assoc] using (c.legal_iff.1 h).2.2.2.2

/-- The counter's range, as numbers: at least 4 values, at most 2^32. -/
theorem Config.cw_pow_of_legal {c : Config} (h : c.legal = true) : 4 ≤ 2 ^ c.cw ∧ 2 ^ c.cw ≤ 2 ^ 32 :=
  ⟨Nat.pow_le_pow_right (n := 2) (by decide) (Config.cw_of_legal h).1,
    Nat.pow_le_pow_right (by decide) (Config.cw_of_legal h).2⟩

end Sys2Proof
end

