-- ==== Sys2Proof/Laws/State.lean ====
section
/-! SUPPORT. One lemma for each field and each named update of the state (Machine/Ops.lean), true by definition. -/

namespace Sys2Proof.Machine

@[simp] theorem setState_state (s : State) (v : BitVec 4) : (s.setState v).regs.state = v := rfl
@[simp] theorem setState_widx (s : State) (v : BitVec 4) : (s.setState v).regs.widx = s.regs.widx := rfl
@[simp] theorem setState_acc (s : State) (v : BitVec 4) : (s.setState v).regs.acc = s.regs.acc := rfl
@[simp] theorem setState_weight (s : State) (v : BitVec 4) : (s.setState v).regs.weight = s.regs.weight := rfl
@[simp] theorem setState_dur (s : State) (v : BitVec 4) : (s.setState v).regs.dur = s.regs.dur := rfl
@[simp] theorem setState_raw0 (s : State) (v : BitVec 4) : (s.setState v).regs.raw0 = s.regs.raw0 := rfl
@[simp] theorem setState_raw1 (s : State) (v : BitVec 4) : (s.setState v).regs.raw1 = s.regs.raw1 := rfl
@[simp] theorem setState_err (s : State) (v : BitVec 4) : (s.setState v).regs.err = s.regs.err := rfl
@[simp] theorem setState_meas0 (s : State) (v : BitVec 4) : (s.setState v).regs.meas0 = s.regs.meas0 := rfl
@[simp] theorem setState_meas1 (s : State) (v : BitVec 4) : (s.setState v).regs.meas1 = s.regs.meas1 := rfl
@[simp] theorem setState_cfg (s : State) (v : BitVec 4) : (s.setState v).cfg = s.cfg := rfl
@[simp] theorem setState_stimulus (s : State) (v : BitVec 4) : (s.setState v).stimulus = s.stimulus := rfl
@[simp] theorem setState_edge (s : State) (v : BitVec 4) : (s.setState v).edge = s.edge := rfl
@[simp] theorem setState_tickNo (s : State) (v : BitVec 4) : (s.setState v).tickNo = s.tickNo := rfl
@[simp] theorem setState_events (s : State) (v : BitVec 4) : (s.setState v).events = s.events := rfl

@[simp] theorem setWidx_state (s : State) (v : BitVec 1) : (s.setWidx v).regs.state = s.regs.state := rfl
@[simp] theorem setWidx_widx (s : State) (v : BitVec 1) : (s.setWidx v).regs.widx = v := rfl
@[simp] theorem setWidx_acc (s : State) (v : BitVec 1) : (s.setWidx v).regs.acc = s.regs.acc := rfl
@[simp] theorem setWidx_weight (s : State) (v : BitVec 1) : (s.setWidx v).regs.weight = s.regs.weight := rfl
@[simp] theorem setWidx_dur (s : State) (v : BitVec 1) : (s.setWidx v).regs.dur = s.regs.dur := rfl
@[simp] theorem setWidx_raw0 (s : State) (v : BitVec 1) : (s.setWidx v).regs.raw0 = s.regs.raw0 := rfl
@[simp] theorem setWidx_raw1 (s : State) (v : BitVec 1) : (s.setWidx v).regs.raw1 = s.regs.raw1 := rfl
@[simp] theorem setWidx_err (s : State) (v : BitVec 1) : (s.setWidx v).regs.err = s.regs.err := rfl
@[simp] theorem setWidx_meas0 (s : State) (v : BitVec 1) : (s.setWidx v).regs.meas0 = s.regs.meas0 := rfl
@[simp] theorem setWidx_meas1 (s : State) (v : BitVec 1) : (s.setWidx v).regs.meas1 = s.regs.meas1 := rfl
@[simp] theorem setWidx_cfg (s : State) (v : BitVec 1) : (s.setWidx v).cfg = s.cfg := rfl
@[simp] theorem setWidx_stimulus (s : State) (v : BitVec 1) : (s.setWidx v).stimulus = s.stimulus := rfl
@[simp] theorem setWidx_edge (s : State) (v : BitVec 1) : (s.setWidx v).edge = s.edge := rfl
@[simp] theorem setWidx_tickNo (s : State) (v : BitVec 1) : (s.setWidx v).tickNo = s.tickNo := rfl
@[simp] theorem setWidx_events (s : State) (v : BitVec 1) : (s.setWidx v).events = s.events := rfl

@[simp] theorem setAcc_state (s : State) (v : Nat) : (s.setAcc v).regs.state = s.regs.state := rfl
@[simp] theorem setAcc_widx (s : State) (v : Nat) : (s.setAcc v).regs.widx = s.regs.widx := rfl
@[simp] theorem setAcc_acc (s : State) (v : Nat) : (s.setAcc v).regs.acc = BitVec.ofNat 63 (v % 2 ^ s.cfg.maxDoublings) := rfl
@[simp] theorem setAcc_weight (s : State) (v : Nat) : (s.setAcc v).regs.weight = s.regs.weight := rfl
@[simp] theorem setAcc_dur (s : State) (v : Nat) : (s.setAcc v).regs.dur = s.regs.dur := rfl
@[simp] theorem setAcc_raw0 (s : State) (v : Nat) : (s.setAcc v).regs.raw0 = s.regs.raw0 := rfl
@[simp] theorem setAcc_raw1 (s : State) (v : Nat) : (s.setAcc v).regs.raw1 = s.regs.raw1 := rfl
@[simp] theorem setAcc_err (s : State) (v : Nat) : (s.setAcc v).regs.err = s.regs.err := rfl
@[simp] theorem setAcc_meas0 (s : State) (v : Nat) : (s.setAcc v).regs.meas0 = s.regs.meas0 := rfl
@[simp] theorem setAcc_meas1 (s : State) (v : Nat) : (s.setAcc v).regs.meas1 = s.regs.meas1 := rfl
@[simp] theorem setAcc_cfg (s : State) (v : Nat) : (s.setAcc v).cfg = s.cfg := rfl
@[simp] theorem setAcc_stimulus (s : State) (v : Nat) : (s.setAcc v).stimulus = s.stimulus := rfl
@[simp] theorem setAcc_edge (s : State) (v : Nat) : (s.setAcc v).edge = s.edge := rfl
@[simp] theorem setAcc_tickNo (s : State) (v : Nat) : (s.setAcc v).tickNo = s.tickNo := rfl
@[simp] theorem setAcc_events (s : State) (v : Nat) : (s.setAcc v).events = s.events := rfl

@[simp] theorem setWeight_state (s : State) (v : Nat) : (s.setWeight v).regs.state = s.regs.state := rfl
@[simp] theorem setWeight_widx (s : State) (v : Nat) : (s.setWeight v).regs.widx = s.regs.widx := rfl
@[simp] theorem setWeight_acc (s : State) (v : Nat) : (s.setWeight v).regs.acc = s.regs.acc := rfl
@[simp] theorem setWeight_weight (s : State) (v : Nat) : (s.setWeight v).regs.weight = BitVec.ofNat 64 (v % 2 ^ (s.cfg.maxDoublings + 1)) := rfl
@[simp] theorem setWeight_dur (s : State) (v : Nat) : (s.setWeight v).regs.dur = s.regs.dur := rfl
@[simp] theorem setWeight_raw0 (s : State) (v : Nat) : (s.setWeight v).regs.raw0 = s.regs.raw0 := rfl
@[simp] theorem setWeight_raw1 (s : State) (v : Nat) : (s.setWeight v).regs.raw1 = s.regs.raw1 := rfl
@[simp] theorem setWeight_err (s : State) (v : Nat) : (s.setWeight v).regs.err = s.regs.err := rfl
@[simp] theorem setWeight_meas0 (s : State) (v : Nat) : (s.setWeight v).regs.meas0 = s.regs.meas0 := rfl
@[simp] theorem setWeight_meas1 (s : State) (v : Nat) : (s.setWeight v).regs.meas1 = s.regs.meas1 := rfl
@[simp] theorem setWeight_cfg (s : State) (v : Nat) : (s.setWeight v).cfg = s.cfg := rfl
@[simp] theorem setWeight_stimulus (s : State) (v : Nat) : (s.setWeight v).stimulus = s.stimulus := rfl
@[simp] theorem setWeight_edge (s : State) (v : Nat) : (s.setWeight v).edge = s.edge := rfl
@[simp] theorem setWeight_tickNo (s : State) (v : Nat) : (s.setWeight v).tickNo = s.tickNo := rfl
@[simp] theorem setWeight_events (s : State) (v : Nat) : (s.setWeight v).events = s.events := rfl

@[simp] theorem setDur_state (s : State) (v : Nat) : (s.setDur v).regs.state = s.regs.state := rfl
@[simp] theorem setDur_widx (s : State) (v : Nat) : (s.setDur v).regs.widx = s.regs.widx := rfl
@[simp] theorem setDur_acc (s : State) (v : Nat) : (s.setDur v).regs.acc = s.regs.acc := rfl
@[simp] theorem setDur_weight (s : State) (v : Nat) : (s.setDur v).regs.weight = s.regs.weight := rfl
@[simp] theorem setDur_dur (s : State) (v : Nat) : (s.setDur v).regs.dur = BitVec.ofNat 32 (v % 2 ^ s.cfg.cw) := rfl
@[simp] theorem setDur_raw0 (s : State) (v : Nat) : (s.setDur v).regs.raw0 = s.regs.raw0 := rfl
@[simp] theorem setDur_raw1 (s : State) (v : Nat) : (s.setDur v).regs.raw1 = s.regs.raw1 := rfl
@[simp] theorem setDur_err (s : State) (v : Nat) : (s.setDur v).regs.err = s.regs.err := rfl
@[simp] theorem setDur_meas0 (s : State) (v : Nat) : (s.setDur v).regs.meas0 = s.regs.meas0 := rfl
@[simp] theorem setDur_meas1 (s : State) (v : Nat) : (s.setDur v).regs.meas1 = s.regs.meas1 := rfl
@[simp] theorem setDur_cfg (s : State) (v : Nat) : (s.setDur v).cfg = s.cfg := rfl
@[simp] theorem setDur_stimulus (s : State) (v : Nat) : (s.setDur v).stimulus = s.stimulus := rfl
@[simp] theorem setDur_edge (s : State) (v : Nat) : (s.setDur v).edge = s.edge := rfl
@[simp] theorem setDur_tickNo (s : State) (v : Nat) : (s.setDur v).tickNo = s.tickNo := rfl
@[simp] theorem setDur_events (s : State) (v : Nat) : (s.setDur v).events = s.events := rfl

@[simp] theorem setRaw0_state (s : State) (v : Raw) : (s.setRaw0 v).regs.state = s.regs.state := rfl
@[simp] theorem setRaw0_widx (s : State) (v : Raw) : (s.setRaw0 v).regs.widx = s.regs.widx := rfl
@[simp] theorem setRaw0_acc (s : State) (v : Raw) : (s.setRaw0 v).regs.acc = s.regs.acc := rfl
@[simp] theorem setRaw0_weight (s : State) (v : Raw) : (s.setRaw0 v).regs.weight = s.regs.weight := rfl
@[simp] theorem setRaw0_dur (s : State) (v : Raw) : (s.setRaw0 v).regs.dur = s.regs.dur := rfl
@[simp] theorem setRaw0_raw0 (s : State) (v : Raw) : (s.setRaw0 v).regs.raw0 = v := rfl
@[simp] theorem setRaw0_raw1 (s : State) (v : Raw) : (s.setRaw0 v).regs.raw1 = s.regs.raw1 := rfl
@[simp] theorem setRaw0_err (s : State) (v : Raw) : (s.setRaw0 v).regs.err = s.regs.err := rfl
@[simp] theorem setRaw0_meas0 (s : State) (v : Raw) : (s.setRaw0 v).regs.meas0 = s.regs.meas0 := rfl
@[simp] theorem setRaw0_meas1 (s : State) (v : Raw) : (s.setRaw0 v).regs.meas1 = s.regs.meas1 := rfl
@[simp] theorem setRaw0_cfg (s : State) (v : Raw) : (s.setRaw0 v).cfg = s.cfg := rfl
@[simp] theorem setRaw0_stimulus (s : State) (v : Raw) : (s.setRaw0 v).stimulus = s.stimulus := rfl
@[simp] theorem setRaw0_edge (s : State) (v : Raw) : (s.setRaw0 v).edge = s.edge := rfl
@[simp] theorem setRaw0_tickNo (s : State) (v : Raw) : (s.setRaw0 v).tickNo = s.tickNo := rfl
@[simp] theorem setRaw0_events (s : State) (v : Raw) : (s.setRaw0 v).events = s.events := rfl

@[simp] theorem setRaw1_state (s : State) (v : Raw) : (s.setRaw1 v).regs.state = s.regs.state := rfl
@[simp] theorem setRaw1_widx (s : State) (v : Raw) : (s.setRaw1 v).regs.widx = s.regs.widx := rfl
@[simp] theorem setRaw1_acc (s : State) (v : Raw) : (s.setRaw1 v).regs.acc = s.regs.acc := rfl
@[simp] theorem setRaw1_weight (s : State) (v : Raw) : (s.setRaw1 v).regs.weight = s.regs.weight := rfl
@[simp] theorem setRaw1_dur (s : State) (v : Raw) : (s.setRaw1 v).regs.dur = s.regs.dur := rfl
@[simp] theorem setRaw1_raw0 (s : State) (v : Raw) : (s.setRaw1 v).regs.raw0 = s.regs.raw0 := rfl
@[simp] theorem setRaw1_raw1 (s : State) (v : Raw) : (s.setRaw1 v).regs.raw1 = v := rfl
@[simp] theorem setRaw1_err (s : State) (v : Raw) : (s.setRaw1 v).regs.err = s.regs.err := rfl
@[simp] theorem setRaw1_meas0 (s : State) (v : Raw) : (s.setRaw1 v).regs.meas0 = s.regs.meas0 := rfl
@[simp] theorem setRaw1_meas1 (s : State) (v : Raw) : (s.setRaw1 v).regs.meas1 = s.regs.meas1 := rfl
@[simp] theorem setRaw1_cfg (s : State) (v : Raw) : (s.setRaw1 v).cfg = s.cfg := rfl
@[simp] theorem setRaw1_stimulus (s : State) (v : Raw) : (s.setRaw1 v).stimulus = s.stimulus := rfl
@[simp] theorem setRaw1_edge (s : State) (v : Raw) : (s.setRaw1 v).edge = s.edge := rfl
@[simp] theorem setRaw1_tickNo (s : State) (v : Raw) : (s.setRaw1 v).tickNo = s.tickNo := rfl
@[simp] theorem setRaw1_events (s : State) (v : Raw) : (s.setRaw1 v).events = s.events := rfl

@[simp] theorem setErr_state (s : State) (v : BitVec 3) : (s.setErr v).regs.state = s.regs.state := rfl
@[simp] theorem setErr_widx (s : State) (v : BitVec 3) : (s.setErr v).regs.widx = s.regs.widx := rfl
@[simp] theorem setErr_acc (s : State) (v : BitVec 3) : (s.setErr v).regs.acc = s.regs.acc := rfl
@[simp] theorem setErr_weight (s : State) (v : BitVec 3) : (s.setErr v).regs.weight = s.regs.weight := rfl
@[simp] theorem setErr_dur (s : State) (v : BitVec 3) : (s.setErr v).regs.dur = s.regs.dur := rfl
@[simp] theorem setErr_raw0 (s : State) (v : BitVec 3) : (s.setErr v).regs.raw0 = s.regs.raw0 := rfl
@[simp] theorem setErr_raw1 (s : State) (v : BitVec 3) : (s.setErr v).regs.raw1 = s.regs.raw1 := rfl
@[simp] theorem setErr_err (s : State) (v : BitVec 3) : (s.setErr v).regs.err = v := rfl
@[simp] theorem setErr_meas0 (s : State) (v : BitVec 3) : (s.setErr v).regs.meas0 = s.regs.meas0 := rfl
@[simp] theorem setErr_meas1 (s : State) (v : BitVec 3) : (s.setErr v).regs.meas1 = s.regs.meas1 := rfl
@[simp] theorem setErr_cfg (s : State) (v : BitVec 3) : (s.setErr v).cfg = s.cfg := rfl
@[simp] theorem setErr_stimulus (s : State) (v : BitVec 3) : (s.setErr v).stimulus = s.stimulus := rfl
@[simp] theorem setErr_edge (s : State) (v : BitVec 3) : (s.setErr v).edge = s.edge := rfl
@[simp] theorem setErr_tickNo (s : State) (v : BitVec 3) : (s.setErr v).tickNo = s.tickNo := rfl
@[simp] theorem setErr_events (s : State) (v : BitVec 3) : (s.setErr v).events = s.events := rfl

@[simp] theorem setMeas0_state (s : State) (v : F64) : (s.setMeas0 v).regs.state = s.regs.state := rfl
@[simp] theorem setMeas0_widx (s : State) (v : F64) : (s.setMeas0 v).regs.widx = s.regs.widx := rfl
@[simp] theorem setMeas0_acc (s : State) (v : F64) : (s.setMeas0 v).regs.acc = s.regs.acc := rfl
@[simp] theorem setMeas0_weight (s : State) (v : F64) : (s.setMeas0 v).regs.weight = s.regs.weight := rfl
@[simp] theorem setMeas0_dur (s : State) (v : F64) : (s.setMeas0 v).regs.dur = s.regs.dur := rfl
@[simp] theorem setMeas0_raw0 (s : State) (v : F64) : (s.setMeas0 v).regs.raw0 = s.regs.raw0 := rfl
@[simp] theorem setMeas0_raw1 (s : State) (v : F64) : (s.setMeas0 v).regs.raw1 = s.regs.raw1 := rfl
@[simp] theorem setMeas0_err (s : State) (v : F64) : (s.setMeas0 v).regs.err = s.regs.err := rfl
@[simp] theorem setMeas0_meas0 (s : State) (v : F64) : (s.setMeas0 v).regs.meas0 = v := rfl
@[simp] theorem setMeas0_meas1 (s : State) (v : F64) : (s.setMeas0 v).regs.meas1 = s.regs.meas1 := rfl
@[simp] theorem setMeas0_cfg (s : State) (v : F64) : (s.setMeas0 v).cfg = s.cfg := rfl
@[simp] theorem setMeas0_stimulus (s : State) (v : F64) : (s.setMeas0 v).stimulus = s.stimulus := rfl
@[simp] theorem setMeas0_edge (s : State) (v : F64) : (s.setMeas0 v).edge = s.edge := rfl
@[simp] theorem setMeas0_tickNo (s : State) (v : F64) : (s.setMeas0 v).tickNo = s.tickNo := rfl
@[simp] theorem setMeas0_events (s : State) (v : F64) : (s.setMeas0 v).events = s.events := rfl

@[simp] theorem setMeas1_state (s : State) (v : F64) : (s.setMeas1 v).regs.state = s.regs.state := rfl
@[simp] theorem setMeas1_widx (s : State) (v : F64) : (s.setMeas1 v).regs.widx = s.regs.widx := rfl
@[simp] theorem setMeas1_acc (s : State) (v : F64) : (s.setMeas1 v).regs.acc = s.regs.acc := rfl
@[simp] theorem setMeas1_weight (s : State) (v : F64) : (s.setMeas1 v).regs.weight = s.regs.weight := rfl
@[simp] theorem setMeas1_dur (s : State) (v : F64) : (s.setMeas1 v).regs.dur = s.regs.dur := rfl
@[simp] theorem setMeas1_raw0 (s : State) (v : F64) : (s.setMeas1 v).regs.raw0 = s.regs.raw0 := rfl
@[simp] theorem setMeas1_raw1 (s : State) (v : F64) : (s.setMeas1 v).regs.raw1 = s.regs.raw1 := rfl
@[simp] theorem setMeas1_err (s : State) (v : F64) : (s.setMeas1 v).regs.err = s.regs.err := rfl
@[simp] theorem setMeas1_meas0 (s : State) (v : F64) : (s.setMeas1 v).regs.meas0 = s.regs.meas0 := rfl
@[simp] theorem setMeas1_meas1 (s : State) (v : F64) : (s.setMeas1 v).regs.meas1 = v := rfl
@[simp] theorem setMeas1_cfg (s : State) (v : F64) : (s.setMeas1 v).cfg = s.cfg := rfl
@[simp] theorem setMeas1_stimulus (s : State) (v : F64) : (s.setMeas1 v).stimulus = s.stimulus := rfl
@[simp] theorem setMeas1_edge (s : State) (v : F64) : (s.setMeas1 v).edge = s.edge := rfl
@[simp] theorem setMeas1_tickNo (s : State) (v : F64) : (s.setMeas1 v).tickNo = s.tickNo := rfl
@[simp] theorem setMeas1_events (s : State) (v : F64) : (s.setMeas1 v).events = s.events := rfl

@[simp] theorem raise_state (s : State) (e : ProtocolError) : (s.raise e).regs.state = sDiscard := rfl
@[simp] theorem raise_widx (s : State) (e : ProtocolError) : (s.raise e).regs.widx = s.regs.widx := rfl
@[simp] theorem raise_acc (s : State) (e : ProtocolError) : (s.raise e).regs.acc = s.regs.acc := rfl
@[simp] theorem raise_weight (s : State) (e : ProtocolError) : (s.raise e).regs.weight = s.regs.weight := rfl
@[simp] theorem raise_dur (s : State) (e : ProtocolError) : (s.raise e).regs.dur = s.regs.dur := rfl
@[simp] theorem raise_raw0 (s : State) (e : ProtocolError) : (s.raise e).regs.raw0 = s.regs.raw0 := rfl
@[simp] theorem raise_raw1 (s : State) (e : ProtocolError) : (s.raise e).regs.raw1 = s.regs.raw1 := rfl
@[simp] theorem raise_err (s : State) (e : ProtocolError) : (s.raise e).regs.err = s.regs.err ||| errCode e := rfl
@[simp] theorem raise_meas0 (s : State) (e : ProtocolError) : (s.raise e).regs.meas0 = s.regs.meas0 := rfl
@[simp] theorem raise_meas1 (s : State) (e : ProtocolError) : (s.raise e).regs.meas1 = s.regs.meas1 := rfl
@[simp] theorem raise_cfg (s : State) (e : ProtocolError) : (s.raise e).cfg = s.cfg := rfl
@[simp] theorem raise_stimulus (s : State) (e : ProtocolError) : (s.raise e).stimulus = s.stimulus := rfl
@[simp] theorem raise_edge (s : State) (e : ProtocolError) : (s.raise e).edge = s.edge := rfl
@[simp] theorem raise_tickNo (s : State) (e : ProtocolError) : (s.raise e).tickNo = s.tickNo := rfl
@[simp] theorem raise_events (s : State) (e : ProtocolError) : (s.raise e).events = s.events := rfl

@[simp] theorem frameClear_regs (s : State) : s.frameClear.regs = Regs.reset := rfl
@[simp] theorem frameClear_cfg (s : State) : s.frameClear.cfg = s.cfg := rfl
@[simp] theorem frameClear_stimulus (s : State) : s.frameClear.stimulus = s.stimulus := rfl
@[simp] theorem frameClear_edge (s : State) : s.frameClear.edge = s.edge := rfl
@[simp] theorem frameClear_tickNo (s : State) : s.frameClear.tickNo = s.tickNo := rfl
@[simp] theorem frameClear_events (s : State) : s.frameClear.events = s.events := rfl

@[simp] theorem output_regs (s : State) (e : Event) : (s.output e).regs = s.regs := rfl
@[simp] theorem output_cfg (s : State) (e : Event) : (s.output e).cfg = s.cfg := rfl
@[simp] theorem output_stimulus (s : State) (e : Event) : (s.output e).stimulus = s.stimulus := rfl
@[simp] theorem output_edge (s : State) (e : Event) : (s.output e).edge = s.edge := rfl
@[simp] theorem output_tickNo (s : State) (e : Event) : (s.output e).tickNo = s.tickNo := rfl
@[simp] theorem output_events (s : State) (e : Event) : (s.output e).events = s.events ++ [⟨s.tickNo, e⟩] := rfl

@[simp] theorem endEdge_regs (p : Pins) (s : State) : (s.endEdge p).regs = s.regs := rfl
@[simp] theorem endEdge_cfg (p : Pins) (s : State) : (s.endEdge p).cfg = s.cfg := rfl
@[simp] theorem endEdge_stimulus (p : Pins) (s : State) : (s.endEdge p).stimulus = s.stimulus.tail := rfl
@[simp] theorem endEdge_edge (p : Pins) (s : State) : (s.endEdge p).edge = s.edge + 1 := rfl
@[simp] theorem endEdge_tickNo (p : Pins) (s : State) : (s.endEdge p).tickNo = if !p.rst && p.tick then s.tickNo + 1 else s.tickNo := rfl
@[simp] theorem endEdge_events (p : Pins) (s : State) : (s.endEdge p).events = s.events := rfl

end Sys2Proof.Machine
end

