-- ==== Sys2Proof/Laws/Ops.lean ====
section
/-! SUPPORT. What each shared operation does, said once: the registers it leaves, as a record; the selector's fields and
what the decoder reads from them. -/

namespace Sys2Proof

@[simp] theorem selRst_selector (p : Pins) (st : BitVec 4) : selRst (selector p st) = p.rst := by
  rcases p with ⟨_ | _, _ | _, _ | _, _ | _⟩ <;> revert st <;> decide

@[simp] theorem selTick_selector (p : Pins) (st : BitVec 4) : selTick (selector p st) = p.tick := by
  rcases p with ⟨_ | _, _ | _, _ | _, _ | _⟩ <;> revert st <;> decide

@[simp] theorem selClk_selector (p : Pins) (st : BitVec 4) : selClk (selector p st) = p.clkIn := by
  rcases p with ⟨_ | _, _ | _, _ | _, _ | _⟩ <;> revert st <;> decide

@[simp] theorem selData_selector (p : Pins) (st : BitVec 4) : selData (selector p st) = p.dataIn := by
  rcases p with ⟨_ | _, _ | _, _ | _, _ | _⟩ <;> revert st <;> decide

@[simp] theorem selState_selector (p : Pins) (st : BitVec 4) : selState (selector p st) = st := by
  rcases p with ⟨_ | _, _ | _, _ | _, _ | _⟩ <;> revert st <;> decide

/-- What the decoder reads from the selector of an edge. -/
theorem decode_selector (p : Pins) (st : BitVec 4) (g : Guards) :
    decode (selector p st) g =
      if p.rst then .ok .reset else if p.tick then decodeTick st p.clkIn p.dataIn g else .ok .hold := by
  simp [decode]

namespace Machine

variable {s : State}

theorem setDur_eq_of_lt (s : State) (v : Nat) (h : v < 2 ^ s.cfg.cw) :
    s.setDur v = { s with regs := { s.regs with dur := BitVec.ofNat 32 v } } := by
  simp [State.setDur, Nat.mod_eq_of_lt h]

theorem setDur_zero (s : State) : s.setDur 0 = { s with regs := { s.regs with dur := 0#32 } } :=
  setDur_eq_of_lt s 0 (Nat.two_pow_pos _)

theorem setDur_one (h : s.cfg.legal = true) : s.setDur 1 = { s with regs := { s.regs with dur := 1#32 } } :=
  setDur_eq_of_lt s 1 (by have := Config.cw_pow_of_legal h; omega)

theorem setAcc_zero (s : State) : s.setAcc 0 = { s with regs := { s.regs with acc := 0#63 } } := by
  simp [State.setAcc]

theorem setAcc_eq_of_lt (s : State) (v : Nat) (h : v < 2 ^ s.cfg.maxDoublings) :
    s.setAcc v = { s with regs := { s.regs with acc := BitVec.ofNat 63 v } } := by
  simp [State.setAcc, Nat.mod_eq_of_lt h]

theorem setWeight_eq_of_lt (s : State) (v : Nat) (h : v < 2 ^ (s.cfg.maxDoublings + 1)) :
    s.setWeight v = { s with regs := { s.regs with weight := BitVec.ofNat 64 v } } := by
  simp [State.setWeight, Nat.mod_eq_of_lt h]

theorem setWeight_one (s : State) : s.setWeight 1 = { s with regs := { s.regs with weight := 1#64 } } :=
  setWeight_eq_of_lt s 1 (Nat.one_lt_two_pow (by omega))

/-- The start of a word: the three working registers, and nothing else. -/
theorem beginWord_eq (s : State) :
    s.beginWord = { s with regs := { s.regs with acc := 0#63, weight := 1#64, dur := 0#32 } } := by
  rw [State.beginWord, setAcc_zero, setWeight_one, setDur_zero]

/-- One tick of a pulse: DUR counts until 2^CW - 1 and stays there. -/
theorem countTick_eq (h : s.cfg.legal = true) :
    s.countTick = { s with regs := { s.regs with
      dur := if s.regs.dur.toNat < 2 ^ s.cfg.cw - 1 then BitVec.ofNat 32 (s.regs.dur.toNat + 1) else s.regs.dur } } := by
  have := Config.cw_pow_of_legal h
  unfold State.countTick
  split
  · rw [setDur_eq_of_lt _ _ (by omega)]
  · rfl

/-- Taking a protocol error: the flag, the control state, and nothing else. -/
theorem raise_eq (s : State) (e : ProtocolError) :
    s.raise e = { s with regs := { s.regs with err := s.regs.err ||| errCode e, state := sDiscard } } := rfl

/-- The port levels at an edge of a written stimulus. -/
theorem pins_of_stimulus {s : State} {p : Pins} {l : List Pins} (h : s.stimulus = p :: l) : s.pins = p := by
  simp [State.pins, h]

/-- An outcome of `onNext` is a next state only through one. -/
theorem onNext_eq_next {f : State → State} {o : Host.Outcome State Fault Refusal} {t : State} :
    onNext f o = .next t ↔ ∃ u, o = .next u ∧ t = f u := by
  cases o <;> simp [onNext, eq_comm]

@[simp] theorem onNext_next (f : State → State) (s : State) : onNext f (.next s) = .next (f s) := rfl

end Machine

end Sys2Proof
end

