-- ==== Sys2Proof/Laws/PerInstr.lean ====
section
/-! SUPPORT. Facts about every operation as syntax, one lemma for each constructor: its encoded word is in its row
(spec/30_encoding.md R67, R70). -/

namespace Sys2Proof.Laws

/-- The encoded word matches the row's mask and match, holds the operand in its place, and is 0 in the ignored bits; the
mask, the operand's bits and the ignored bits are disjoint. -/
def Encoded.Statement (i : Instr) : Prop :=
  encode i &&& i.rowMask = i.rowMatch ∧ encode i &&& i.operandMask = i.operandBits ∧
    encode i &&& i.ignoredMask = 0#8 ∧ i.rowMask &&& i.operandMask = 0#8

theorem Encoded.reset : Encoded.Statement .reset := by unfold Encoded.Statement; decide

theorem Encoded.hold : Encoded.Statement .hold := by unfold Encoded.Statement; decide

theorem Encoded.syncArmHold : Encoded.Statement .syncArmHold := by unfold Encoded.Statement; decide

theorem Encoded.syncArmGo : Encoded.Statement .syncArmGo := by unfold Encoded.Statement; decide

theorem Encoded.syncWaitHold : Encoded.Statement .syncWaitHold := by unfold Encoded.Statement; decide

theorem Encoded.syncWaitRise : Encoded.Statement .syncWaitRise := by unfold Encoded.Statement; decide

theorem Encoded.syncMeasCount : Encoded.Statement .syncMeasCount := by unfold Encoded.Statement; decide

theorem Encoded.syncMeasAccept : Encoded.Statement .syncMeasAccept := by unfold Encoded.Statement; decide

theorem Encoded.syncMeasShort : Encoded.Statement .syncMeasShort := by unfold Encoded.Statement; decide

theorem Encoded.bitSampleOk (d : Bool) : Encoded.Statement (.bitSampleOk d) := by
  cases d <;> (unfold Encoded.Statement; decide)

theorem Encoded.bitSampleGlitch : Encoded.Statement .bitSampleGlitch := by unfold Encoded.Statement; decide

theorem Encoded.bitWaitHold : Encoded.Statement .bitWaitHold := by unfold Encoded.Statement; decide

theorem Encoded.bitWaitRise : Encoded.Statement .bitWaitRise := by unfold Encoded.Statement; decide

theorem Encoded.bitMeasCount : Encoded.Statement .bitMeasCount := by unfold Encoded.Statement; decide

theorem Encoded.bitMeasNext : Encoded.Statement .bitMeasNext := by unfold Encoded.Statement; decide

theorem Encoded.bitMeasBound : Encoded.Statement .bitMeasBound := by unfold Encoded.Statement; decide

theorem Encoded.bitMeasWord0 : Encoded.Statement .bitMeasWord0 := by unfold Encoded.Statement; decide

theorem Encoded.bitMeasWord1 : Encoded.Statement .bitMeasWord1 := by unfold Encoded.Statement; decide

theorem Encoded.bitMeasBadlen : Encoded.Statement .bitMeasBadlen := by unfold Encoded.Statement; decide

theorem Encoded.convert : Encoded.Statement .convert := by unfold Encoded.Statement; decide

theorem Encoded.emit : Encoded.Statement .emit := by unfold Encoded.Statement; decide

theorem Encoded.discard : Encoded.Statement .discard := by unfold Encoded.Statement; decide

end Sys2Proof.Laws
end

