-- ==== Sys2Proof/Laws/Step.lean ====
section
/-! SUPPORT. What a step can do, said once, and how runs are put together. -/

namespace Sys2Proof.Machine

/-- A step that answers a next state: the configuration is legal, the decoder names an operation, its meaning answers a
state, and the edge ends. -/
theorem step_eq_next {s t : State} : step s = .next t ↔
    s.cfg.legal = true ∧ ∃ i u, decode s.sel s.guards = .ok i ∧ exec i s = .next u ∧ t = u.endEdge s.pins := by
  unfold step
  split
  · rename_i h
    cases hd : decode s.sel s.guards with
    | ok i => simp [h, onNext_eq_next]
    | error r => simp
  · rename_i h; simp [h]

/-- Every meaning answers a next state. -/
theorem exec_next (i : Instr) (s : State) : ∃ t, exec i s = .next t := by
  cases i <;> exact ⟨_, rfl⟩

/-- With `rst = 1` the operation is RESET. -/
theorem decode_of_rst {s : State} (h : s.pins.rst = true) : decode s.sel s.guards = .ok .reset := by
  simp [State.sel, decode_selector, h]

/-- With `rst = 0` and `tick = 0` the operation is HOLD. -/
theorem decode_of_hold {s : State} (h : s.pins.rst = false) (h' : s.pins.tick = false) :
    decode s.sel s.guards = .ok .hold := by
  simp [State.sel, decode_selector, h, h']

/-- At a tick the control state, the line levels and the guards select the operation. -/
theorem decode_of_tick {s : State} {c d : Bool} (h : s.pins = tickPins c d) :
    decode s.sel s.guards = decodeTick s.regs.state c d s.guards := by
  simp [State.sel, decode_selector, h, tickPins]

/-- The step that runs operation `i`. -/
theorem step_of_exec {s u : State} {i : Instr} (hl : s.cfg.legal = true) (hd : decode s.sel s.guards = .ok i)
    (hu : exec i s = .next u) : step s = .next (u.endEdge s.pins) := by
  simp [step, hl, hd, hu]

/-- The step of a tick whose operation only writes registers. -/
theorem step_of_tick {s : State} {i : Instr} {c d : Bool} {r : Regs} (hl : s.cfg.legal = true)
    (hp : s.pins = tickPins c d) (hd : decode s.sel s.guards = .ok i) (hu : exec i s = .next { s with regs := r }) :
    step s = .next { s with regs := r, stimulus := s.stimulus.tail, edge := s.edge + 1, tickNo := s.tickNo + 1 } := by
  rw [step_of_exec hl hd hu, hp]; rfl

/-- Every meaning changes the registers and the event log only, and the log only by adding to it at the present tick. -/
theorem exec_shape (i : Instr) (s : State) : ∃ (r : Regs) (l : List Event), l.length ≤ 1 ∧
    exec i s = .next { s with regs := r, events := s.events ++ l.map fun e => ⟨s.tickNo, e⟩ } := by
  have keep : ∀ (r : Regs), ∃ (r' : Regs) (l : List Event), l.length ≤ 1 ∧
      (Host.Outcome.next { s with regs := r } : Host.Outcome State Fault Refusal) =
        .next { s with regs := r', events := s.events ++ l.map fun e => ⟨s.tickNo, e⟩ } :=
    fun r => ⟨r, [], Nat.zero_le 1, by simp⟩
  cases i
  case emit => exact ⟨_, [.emit s.regs.raw0 s.regs.raw1 s.regs.meas0 s.regs.meas1], le_refl 1, rfl⟩
  case discard => exact ⟨_, [.discard s.regs.err], le_refl 1, rfl⟩
  case syncMeasCount => simp only [exec, execSyncMeasCount, State.countTick]; split <;> exact keep _
  case bitMeasCount => simp only [exec, execBitMeasCount, State.countTick]; split <;> exact keep _
  case bitSampleOk d => cases d <;> exact keep _
  all_goals exact keep _

/-- A run of no step stays where it is. -/
theorem run_zero (s : State) : Host.Core.run core 0 s = .next s := rfl

/-- The host's machine steps by `step`. -/
theorem core_step : core.step = step := rfl

/-- A run of `n + 1` steps is one step and then `n`. -/
theorem run_succ (n : Nat) (s : State) : Host.Core.run core (n + 1) s =
    match step s with
    | .next t => Host.Core.run core n t
    | .fault r => .fault r
    | .refused r => .refused r := by
  rw [← core_step]
  simp only [Host.Core.run]
  cases core.step s <;> rfl

/-- A run whose first step answers `t`. -/
theorem run_succ_of_step {n : Nat} {s t : State} (h : step s = .next t) :
    Host.Core.run core (n + 1) s = Host.Core.run core n t := by
  rw [run_succ, h]

/-- Runs are put together. -/
theorem run_add_of_run {m n : Nat} {s t : State} (h : Host.Core.run core m s = .next t) :
    Host.Core.run core (m + n) s = Host.Core.run core n t := by
  induction m generalizing s with
  | zero =>
    cases (run_zero s).symm.trans h
    rw [Nat.zero_add]
  | succ m ih =>
    rw [Nat.add_right_comm, run_succ]
    rw [run_succ] at h
    cases hs : step s with
    | next u => rw [hs] at h; exact ih h
    | fault r => rw [hs] at h; cases h
    | refused r => rw [hs] at h; cases h

end Sys2Proof.Machine
end

