-- ==== Sys2Proof/Tests/Slice0.lean ====
section
/-! SUPPORT. The model's own tests: illegal terms that the checks refuse, words written out from the pattern strings of
spec/opcode_table.json, one edge for each operation from spec/95_test_vectors.md, and for every statement that has
hypotheses a state and operands that meet them. -/

namespace Sys2Proof.Machine.Tests

/-! ### Helpers -/

/-- A machine with the given configuration, registers and coming port levels. -/
def machine (c : Config) (r : Regs) (l : List Pins) : State :=
  { State.reset with cfg := c, regs := r, stimulus := l }

/-- CFG_T5 of spec/95. -/
def cfgT5 : Config := { Config.default with threshold := 5 }
/-- CFG_CW3 of spec/95. -/
def cfgCw3 : Config := { Config.default with threshold := 7, cw := 3 }
/-- CFG_MD25 of spec/95. -/
def cfgMd25 : Config := { Config.default with threshold := 5, maxDoublings := 25 }
/-- CFG_EXACT of spec/95. -/
def cfgExact : Config := { Config.default with scale := Config.scaleExact }
/-- The smallest legal THRESHOLD and CW. -/
def cfgT2 : Config := { Config.default with threshold := 2, cw := 2 }

/-- One edge: the selector, the operation, the registers after and the events produced. -/
def edgeOf (c : Config) (r : Regs) (p : Pins) : Option (Sel × Instr × Regs × List Event) :=
  let s := machine c r [p]
  match decode s.sel s.guards, step s with
  | .ok i, .next t => some (s.sel, i, t.regs, t.events.map (·.event))
  | _, _ => none

/-- The machine after `n` steps (where it stops, if it stops). -/
def after : Nat → State → State
  | 0, s => s
  | n + 1, s =>
    match step s with
    | .next t => after n t
    | .fault _ => s
    | .refused _ => s

/-- A machine some steps after reset is reachable. -/
theorem reachable_after (n : Nat) {s : State} (h : Reachable s) : Reachable (after n s) := by
  induction n generalizing s with
  | zero => exact h
  | succ n ih =>
    rw [after]
    cases hs : step s with
    | next t => exact ih (.step s t h hs)
    | fault _ => exact h
    | refused _ => exact h

/-! ### Well-formedness: what the checks refuse -/

theorem test_default_is_legal : Config.default.legal = true ∧ cfgExact.legal = true ∧ cfgT2.legal = true := by decide
theorem test_threshold_one_refused : ({ Config.default with threshold := 1 } : Config).thresholdLegal = false := by decide
theorem test_threshold_above_counter_refused :
    ({ Config.default with threshold := 65536 } : Config).thresholdLegal = false := by decide
theorem test_word_bits_refused : ({ Config.default with wordBits := 23 } : Config).wordBitsLegal = false := by decide
theorem test_max_doublings_refused :
    ({ Config.default with maxDoublings := 24 } : Config).maxDoublingsLegal = false ∧
      ({ Config.default with maxDoublings := 64 } : Config).maxDoublingsLegal = false := by decide
theorem test_cw_refused : ({ Config.default with cw := 1 } : Config).cwLegal = false ∧
    ({ Config.default with cw := 33 } : Config).cwLegal = false := by decide
/-- Refused: 2^1001 (exponent field 2024), -SCALE, +0.0, the largest subnormal, infinity. -/
theorem test_scale_refused : ∀ a ∈ [0x7E80000000000000#64, 0xBF5451E6D28776D7#64, 0x0000000000000000#64,
    0x000FFFFFFFFFFFFF#64, 0x7FF0000000000000#64], ({ Config.default with scale := a } : Config).scaleLegal = false := by
  intro a ha; fin_cases ha <;> decide

/-- Accepted: the smallest normal number and the largest below 2^1001. -/
theorem test_scale_bounds_accepted : ∀ a ∈ [0x0010000000000000#64, 0x7E7FFFFFFFFFFFFF#64],
    ({ Config.default with scale := a } : Config).scaleLegal = true := by
  intro a ha; fin_cases ha <;> decide

theorem test_operations_well_formed : (Instr.bitSampleOk true).wf = true ∧ Instr.emit.wf = true := by decide

/-! ### Words written out from the pattern strings -/

/-- Guards where MARK holds and LEN does not, and so on: (mark, len, bound, w0). -/
theorem test_words_reset_hold : decode 0b11111111#8 Guards.atReset = .ok .reset ∧
    decode 0b10000000#8 Guards.atReset = .ok .reset ∧ decode 0b01111011#8 Guards.atReset = .ok .hold ∧
    decode 0b00000000#8 Guards.atReset = .ok .hold := by decide
theorem test_words_sync : decode 0b00000110#8 Guards.atReset = .ok .syncArmHold ∧
    decode 0b00000101#8 Guards.atReset = .ok .syncArmGo ∧ decode 0b00001100#8 Guards.atReset = .ok .syncWaitHold ∧
    decode 0b00001111#8 Guards.atReset = .ok .syncWaitRise ∧ decode 0b00010110#8 Guards.atReset = .ok .syncMeasCount ∧
    decode 0b00010100#8 ⟨true, false, false, true⟩ = .ok .syncMeasAccept ∧
    decode 0b00010100#8 ⟨false, false, false, true⟩ = .ok .syncMeasShort := by decide
theorem test_words_receiver : decode 0b00011100#8 Guards.atReset = .ok (.bitSampleOk false) ∧
    decode 0b00011101#8 Guards.atReset = .ok (.bitSampleOk true) ∧
    decode 0b00011110#8 Guards.atReset = .ok .bitSampleGlitch ∧ decode 0b00100100#8 Guards.atReset = .ok .bitWaitHold ∧
    decode 0b00100110#8 Guards.atReset = .ok .bitWaitRise ∧ decode 0b00101110#8 Guards.atReset = .ok .bitMeasCount ∧
    decode 0b00101100#8 ⟨false, true, false, true⟩ = .ok .bitMeasNext ∧
    decode 0b00101100#8 ⟨false, false, true, true⟩ = .ok .bitMeasBound ∧
    decode 0b00101100#8 ⟨true, true, false, true⟩ = .ok .bitMeasWord0 ∧
    decode 0b00101100#8 ⟨true, true, false, false⟩ = .ok .bitMeasWord1 ∧
    decode 0b00101100#8 ⟨true, false, true, false⟩ = .ok .bitMeasBadlen := by decide
theorem test_words_frame : decode 0b00110111#8 Guards.atReset = .ok .convert ∧
    decode 0b00111100#8 Guards.atReset = .ok .emit ∧ decode 0b01000110#8 Guards.atReset = .ok .discard := by decide
theorem test_words_reserved : decode 0b01001100#8 Guards.atReset = .error (.unusedStateCode 9#4) ∧
    decode 0b01111111#8 Guards.atReset = .error (.unusedStateCode 15#4) := by decide
theorem test_table_words : decodeTableWord 8 0x1D = some (.bitSampleOk true) ∧ decodeTableWord 8 0x44 = some .discard ∧
    decodeTableWord 8 0x14 = some .syncMeasShort ∧ decodeTableWord 8 0x7F = none ∧ decodeTableWord 16 0x44 = none := by decide
/-- A word placed where the step fetches is run by the very next step. -/
theorem test_placed_words_run :
    (match step (State.reset.withFetchWord 8 0x0E) with | .next t => t.regs.dur | _ => 0#32) = 1#32 ∧
      (match step (State.reset.withFetchWord 8 0x36) with | .next t => t.regs.meas1 | _ => 0#64) = 0x8000000000000000#64 := by
  decide

/-! ### One edge for each operation (spec/95_test_vectors.md, the vector's name in the theorem's) -/

theorem test_vS1_sync_arm_hold : edgeOf .default Regs.reset (tickPins true false) =
    some (0x06#8, .syncArmHold, Regs.reset, []) := by decide
theorem test_vS2_sync_arm_go : edgeOf .default Regs.reset (tickPins false false) =
    some (0x04#8, .syncArmGo, { Regs.reset with state := 1#4 }, []) := by decide
theorem test_vS5_sync_wait_hold : edgeOf .default { Regs.reset with state := 1#4 } (tickPins false true) =
    some (0x0D#8, .syncWaitHold, { Regs.reset with state := 1#4 }, []) := by decide
theorem test_vS6_sync_wait_rise : edgeOf .default { Regs.reset with state := 1#4 } (tickPins true false) =
    some (0x0E#8, .syncWaitRise, { Regs.reset with state := 2#4, dur := 1#32 }, []) := by decide
theorem test_vS7_sync_meas_count : edgeOf .default { Regs.reset with state := 2#4, dur := 49#32 } (tickPins true false) =
    some (0x16#8, .syncMeasCount, { Regs.reset with state := 2#4, dur := 50#32 }, []) := by decide
theorem test_vS8_sync_meas_count_saturates :
    edgeOf cfgCw3 { Regs.reset with state := 2#4, dur := 7#32 } (tickPins true false) =
      some (0x16#8, .syncMeasCount, { Regs.reset with state := 2#4, dur := 7#32 }, []) := by decide
theorem test_vS4_sync_meas_accept : edgeOf .default { Regs.reset with state := 2#4, dur := 50#32 } (tickPins false false) =
    some (0x14#8, .syncMeasAccept, { Regs.reset with state := 3#4 }, []) := by decide
theorem test_vS3_sync_meas_short : edgeOf .default { Regs.reset with state := 2#4, dur := 49#32 } (tickPins false false) =
    some (0x14#8, .syncMeasShort, { Regs.reset with state := 8#4, err := 0b001#3 }, []) := by decide
theorem test_vW1_bit_sample_ok : edgeOf .default { Regs.reset with state := 3#4, weight := 0x800#64 } (tickPins false true) =
    some (0x1D#8, .bitSampleOk true, { Regs.reset with state := 4#4, weight := 0x800#64, acc := 0x800#63 }, []) := by decide
theorem test_vW2_bit_sample_ok_zero :
    edgeOf .default { Regs.reset with state := 3#4, weight := 0x800#64, acc := 0x7FF#63 } (tickPins false false) =
      some (0x1C#8, .bitSampleOk false, { Regs.reset with state := 4#4, weight := 0x800#64, acc := 0x7FF#63 }, []) := by
  decide
theorem test_vW18_bit_sample_glitch : edgeOf .default
    { Regs.reset with state := 3#4, widx := 1#1, acc := 0x155#63, weight := 0x200#64, raw0 := 0x123456#24 } (tickPins true true) =
    some (0x1F#8, .bitSampleGlitch, { Regs.reset with
        state := 8#4, widx := 1#1, acc := 0x155#63, weight := 0x200#64,
        raw0 := 0x123456#24, err := 0b010#3 }, []) := by decide
theorem test_vW4_bit_wait_hold :
    edgeOf .default { Regs.reset with state := 4#4, acc := 9#63, weight := 8#64 } (tickPins false true) =
      some (0x25#8, .bitWaitHold, { Regs.reset with state := 4#4, acc := 9#63, weight := 8#64 }, []) := by decide
theorem test_vW17_bit_wait_rise :
    edgeOf .default { Regs.reset with state := 4#4, acc := 0xFFFFFFF#63, weight := 0x8000000#64 } (tickPins true false) =
      some (0x26#8, .bitWaitRise, { Regs.reset with state := 5#4, acc := 0xFFFFFFF#63, weight := 0x10000000#64, dur := 1#32 },
        []) := by decide
theorem test_vW6_bit_meas_count :
    edgeOf .default { Regs.reset with state := 5#4, acc := 0x2A#63, weight := 0x40#64, dur := 2#32 } (tickPins true false) =
      some (0x2E#8, .bitMeasCount, { Regs.reset with state := 5#4, acc := 0x2A#63, weight := 0x40#64, dur := 3#32 }, []) := by
  decide
theorem test_vW9_bit_meas_next :
    edgeOf .default { Regs.reset with state := 5#4, acc := 0x2800#63, weight := 0x1000000#64, dur := 49#32 }
      (tickPins false false) =
      some (0x2C#8, .bitMeasNext, { Regs.reset with state := 3#4, acc := 0x2800#63, weight := 0x1000000#64 }, []) := by decide
theorem test_vW19_bit_meas_bound :
    edgeOf cfgMd25 { Regs.reset with state := 5#4, acc := 0x1FFFFFF#63, weight := 0x2000000#64, dur := 3#32 }
      (tickPins false false) =
      some (0x2C#8, .bitMeasBound, { Regs.reset with
        state := 8#4, acc := 0x1FFFFFF#63, weight := 0x2000000#64,
        err := 0b100#3 }, []) := by decide
theorem test_vW8_bit_meas_word0 :
    edgeOf .default { Regs.reset with state := 5#4, acc := 0x2800#63, weight := 0x1000000#64, dur := 50#32 }
      (tickPins false false) =
      some (0x2C#8, .bitMeasWord0, { Regs.reset with state := 3#4, widx := 1#1, raw0 := 0x002800#24 }, []) := by decide
theorem test_vW10_bit_meas_word1 :
    edgeOf .default { Regs.reset with
        state := 5#4, widx := 1#1, acc := 0xFFD800#63, weight := 0x1000000#64, dur := 50#32,
        raw0 := 0x002800#24 } (tickPins false false) =
      some (0x2C#8, .bitMeasWord1, { Regs.reset with state := 6#4, widx := 1#1, raw0 := 0x002800#24, raw1 := 0xFFD800#24 },
        []) := by decide
theorem test_vW13_bit_meas_badlen :
    edgeOf .default { Regs.reset with state := 5#4, acc := 0xFFFFFFF#63, weight := 0x10000000#64, dur := 60#32 }
      (tickPins false false) =
      some (0x2C#8, .bitMeasBadlen, { Regs.reset with
        state := 8#4, acc := 0xFFFFFFF#63, weight := 0x10000000#64,
        err := 0b100#3 }, []) := by decide
theorem test_vC14_convert :
    edgeOf .default { Regs.reset with state := 6#4, widx := 1#1, raw0 := 0x123456#24, raw1 := 0xABCDEF#24 }
      (tickPins false false) =
      some (0x34#8, .convert, { Regs.reset with
        state := 7#4, widx := 1#1, raw0 := 0x123456#24, raw1 := 0xABCDEF#24,
        meas0 := 0x40971E9B133D498C#64, meas1 := 0x40BABB64566795BB#64 }, []) := by decide
theorem test_vC17_convert_exact_scale :
    edgeOf cfgExact { Regs.reset with state := 6#4, widx := 1#1, raw0 := 0x002800#24, raw1 := 0x002800#24 }
      (tickPins false false) =
      some (0x34#8, .convert, { Regs.reset with
        state := 7#4, widx := 1#1, raw0 := 0x002800#24, raw1 := 0x002800#24,
        meas0 := 0x4029666666666666#64, meas1 := 0xC029666666666666#64 }, []) := by decide
theorem test_vO1_emit :
    edgeOf .default { Regs.reset with
        state := 7#4, widx := 1#1, raw0 := 0x002800#24, raw1 := 0x002800#24,
        meas0 := 0x402966608729548D#64, meas1 := 0xC02966608729548D#64 } (tickPins true true) =
      some (0x3F#8, .emit, Regs.reset,
        [.emit 0x002800#24 0x002800#24 0x402966608729548D#64 0xC02966608729548D#64]) := by decide
theorem test_vO2_discard :
    edgeOf .default { Regs.reset with state := 8#4, acc := 0x1F#63, weight := 0x20#64, err := 0b010#3 } (tickPins true false) =
      some (0x46#8, .discard, Regs.reset, [.discard 0b010#3]) := by decide
theorem test_vO5_hold :
    edgeOf .default { Regs.reset with state := 5#4, weight := 0x80#64, acc := 0x2A#63, dur := 9#32 } ⟨false, false, true, false⟩ =
      some (0x2A#8, .hold, { Regs.reset with state := 5#4, weight := 0x80#64, acc := 0x2A#63, dur := 9#32 }, []) := by decide
theorem test_vO7_reset :
    edgeOf .default { Regs.reset with
        state := 5#4, widx := 1#1, raw0 := 0x123456#24, weight := 0x80#64, acc := 0x2A#63,
        dur := 9#32 } ⟨true, true, true, true⟩ = some (0xAF#8, .reset, Regs.reset, []) := by decide
theorem test_vO11_ports : (Regs.ports { Regs.reset with
        state := 7#4, widx := 1#1, raw0 := 0x002800#24, raw1 := 0xFFD800#24,
        meas0 := 0x402966608729548D#64, meas1 := 0x402966608729548D#64 }) =
    ⟨true, 0x002800#24, 0xFFD800#24, 0x402966608729548D#64, 0x402966608729548D#64, false, 0#3⟩ := by decide

/-! ### States and operands that meet the statements' hypotheses -/

/-- A tick in control state `code`, from registers `r`. -/
def tick (c : Config) (r : Regs) (clk d : Bool) : State := machine c r [tickPins clk d]

theorem test_witness_ResetValuesOfEveryRegister : Instr.emit ∈ [Instr.emit, .discard] ∧ Instr.discard ∈ [Instr.emit, .discard] := by
  decide

theorem test_witness_ResetWinsFromEveryState :
    let s := machine .default { Regs.reset with state := 15#4 } [⟨true, true, true, true⟩]
    s.cfg.legal = true ∧ s.pins.rst = true := by decide

theorem test_witness_HoldChangesNothing :
    let s := machine .default { Regs.reset with state := 5#4, dur := 3#32 } [⟨false, false, true, true⟩]
    s.cfg.legal = true ∧ s.pins.rst = false ∧ s.pins.tick = false := by decide

theorem test_witness_WaitOperationsHoldTheBlock :
    (tick .default Regs.reset true true).tickAt sSyncArm true true ∧
      (tick .default { Regs.reset with state := 1#4 } false true).tickAt sSyncWait false true ∧
      (tick .default { Regs.reset with state := 4#4 } false false).tickAt sBitWait false false :=
  ⟨⟨by decide, rfl, rfl⟩, ⟨by decide, rfl, rfl⟩, ⟨by decide, rfl, rfl⟩⟩

theorem test_witness_ArmGoesToWaitWhenClockIsLow : (tick .default Regs.reset false true).tickAt sSyncArm false true :=
  ⟨by decide, rfl, rfl⟩

theorem test_witness_RiseInSyncStartsTheCountAtOne :
    (tick .default { Regs.reset with state := 1#4 } true true).tickAt sSyncWait true true := ⟨by decide, rfl, rfl⟩

theorem test_witness_RiseInWordDoublesTheWeight : ∀ w ∈ [1#64, 0x8000000#64],
    let s := tick .default { Regs.reset with state := 4#4, weight := w } true false
    (s.cfg.legal = true ∧ s.pins = tickPins true false ∧ s.regs.state = sBitWait) ∧
      s.regs.weight.toNat ≤ 2 ^ (s.cfg.maxDoublings - 1) := by
  intro w hw; fin_cases hw <;> decide

/-- Both counting states, below the saturation value and at it. -/
theorem test_witness_CountingOperationsSaturate : ∀ x ∈ [2#4, 5#4], ∀ v ∈ [1#32, 6#32, 7#32],
    let s := tick cfgCw3 { Regs.reset with state := x, dur := v } true false
    s.cfg.legal = true ∧ s.pins = tickPins true false ∧ (s.regs.state = sSyncMeas ∨ s.regs.state = sBitMeas) ∧
      (s.regs.dur.toNat < 2 ^ s.cfg.cw - 1 ∨ 2 ^ s.cfg.cw - 1 ≤ s.regs.dur.toNat) := by
  intro x hx v hv; fin_cases hx <;> fin_cases hv <;> decide

theorem test_witness_AcceptedMarkerStartsWordZero : ∀ v ∈ [50#32, 65535#32],
    let s := tick .default { Regs.reset with state := 2#4, dur := v } false false
    (s.cfg.legal = true ∧ s.pins = tickPins false false ∧ s.regs.state = sSyncMeas) ∧ s.cfg.threshold ≤ s.regs.dur.toNat := by
  intro v hv; fin_cases hv <;> decide

theorem test_witness_ErrorOperationsRaiseTheirFlag_short : ∀ v ∈ [1#32, 49#32],
    let s := tick .default { Regs.reset with state := 2#4, dur := v } false true
    (s.cfg.legal = true ∧ s.pins = tickPins false true ∧ s.regs.state = sSyncMeas) ∧ s.regs.dur.toNat < s.cfg.threshold := by
  intro v hv; fin_cases hv <;> decide

theorem test_witness_ErrorOperationsRaiseTheirFlag_glitch :
    (tick .default { Regs.reset with state := 3#4 } true true).tickAt sBitSample true true := ⟨by decide, rfl, rfl⟩
theorem test_witness_ErrorOperationsRaiseTheirFlag_bound : ∀ v ∈ [1#32, 49#32],
    let s := tick .default { Regs.reset with state := 5#4, weight := 0x10000000#64, dur := v } false false
    (s.cfg.legal = true ∧ s.pins = tickPins false false ∧ s.regs.state = sBitMeas) ∧ s.regs.dur.toNat < s.cfg.threshold ∧
      s.regs.weight.toNat = 2 ^ s.cfg.maxDoublings := by
  intro v hv; fin_cases hv <;> decide

theorem test_witness_ErrorOperationsRaiseTheirFlag_badlen : ∀ w ∈ [2#64, 0x800000#64, 0x2000000#64, 0x10000000#64],
    let s := tick .default { Regs.reset with state := 5#4, weight := w, dur := 50#32 } false false
    (s.cfg.legal = true ∧ s.pins = tickPins false false ∧ s.regs.state = sBitMeas) ∧ s.cfg.threshold ≤ s.regs.dur.toNat ∧
      s.regs.weight.toNat ≠ 2 ^ 24 := by
  intro w hw; fin_cases hw <;> decide

theorem test_witness_SampleAddsTheWeightWhenDataIsHigh :
    (tick .default { Regs.reset with state := 3#4 } false true).tickAt sBitSample false true ∧
      (tick .default { Regs.reset with state := 3#4 } false false).tickAt sBitSample false false :=
  ⟨⟨by decide, rfl, rfl⟩, ⟨by decide, rfl, rfl⟩⟩

/-- Registers of S_BIT_SAMPLE obey the invariant: bit `n` is next, `acc` holds the bits before it. -/
theorem regsInv_sample (acc : BitVec 63) (weight : BitVec 64) (n : Nat) (hn : n ≤ 27) (hw : weight.toNat = 2 ^ n)
    (ha : acc.toNat < weight.toNat) :
    RegsInv .default { Regs.reset with state := sBitSample, acc := acc, weight := weight } where
  code := (by decide : (sBitSample).toNat ≤ 8)
  fresh h := absurd h (by decide : ¬ (sBitSample = sSyncArm ∨ sBitSample = sSyncWait))
  measuring h := absurd h (by decide : sBitSample ≠ sSyncMeas)
  receiving _ := ⟨rfl, rfl, rfl, rfl, fun _ => rfl⟩
  sampling _ := ⟨⟨n, hn, hw⟩, ha, rfl⟩
  waiting h := absurd h (by decide : sBitSample ≠ sBitWait)
  pulse h := absurd h (by decide : sBitSample ≠ sBitMeas)
  converting h := absurd h (by decide : sBitSample ≠ sConvert)
  emitting h := absurd h (by decide : sBitSample ≠ sEmit)
  discarding h := absurd h (by decide : sBitSample ≠ sDiscard)

/-- Bit 0 and bit 27, the last one. -/
theorem test_witness_SampledBitLandsInItsPlace :
    (RegsInv .default { Regs.reset with state := sBitSample, acc := 0#63, weight := 1#64 } ∧
      (tick .default { Regs.reset with state := 3#4 } false true).tickAt sBitSample false true ∧ (1#64).toNat = 2 ^ 0) ∧
    RegsInv .default { Regs.reset with state := sBitSample, acc := 0x7FFFFFF#63, weight := 0x8000000#64 } ∧
      (tick .default { Regs.reset with state := 3#4, acc := 0x7FFFFFF#63, weight := 0x8000000#64 } false true).tickAt
        sBitSample false true ∧ (0x8000000#64).toNat = 2 ^ 27 :=
  ⟨⟨regsInv_sample _ _ 0 (by decide) (by decide) (by decide), ⟨by decide, rfl, rfl⟩, by decide⟩,
    regsInv_sample _ _ 27 (by decide) (by decide) (by decide), ⟨by decide, rfl, rfl⟩, by decide⟩

theorem test_witness_ShortPulseGoesOnToTheNextBit : ∀ v ∈ [1#32, 49#32], ∀ w ∈ [2#64, 0x1000000#64, 0x8000000#64],
    let s := tick .default { Regs.reset with state := 5#4, weight := w, dur := v } false false
    (s.cfg.legal = true ∧ s.pins = tickPins false false ∧ s.regs.state = sBitMeas) ∧ s.regs.dur.toNat < s.cfg.threshold ∧
      s.regs.weight.toNat ≠ 2 ^ s.cfg.maxDoublings := by
  intro v hv w hw; fin_cases hv <;> fin_cases hw <;> decide

/-- Registers of S_BIT_MEAS at the end of a marker after 24 cells obey the invariant. -/
theorem regsInv_marker (c : Config) (widx : BitVec 1) (h : 24 ≤ c.maxDoublings ∧ 50 ≤ 2 ^ c.cw - 1) :
    RegsInv c { Regs.reset with
        state := sBitMeas, widx := widx, acc := 0x002800#63, weight := 0x1000000#64,
        dur := 50#32 } where
  code := (by decide : (sBitMeas).toNat ≤ 8)
  fresh h := absurd h (by decide : ¬ (sBitMeas = sSyncArm ∨ sBitMeas = sSyncWait))
  measuring h := absurd h (by decide : sBitMeas ≠ sSyncMeas)
  receiving _ := ⟨rfl, rfl, rfl, rfl, fun _ => rfl⟩
  sampling h := absurd h (by decide : sBitMeas ≠ sBitSample)
  waiting h := absurd h (by decide : sBitMeas ≠ sBitWait)
  pulse _ := ⟨⟨24, by decide, h.1, (by decide : (0x1000000#64).toNat = 2 ^ 24)⟩,
    (by decide : (0x002800#63).toNat < (0x1000000#64).toNat), (by decide : 1 ≤ (50#32).toNat), h.2⟩
  converting h := absurd h (by decide : sBitMeas ≠ sConvert)
  emitting h := absurd h (by decide : sBitMeas ≠ sEmit)
  discarding h := absurd h (by decide : sBitMeas ≠ sDiscard)

theorem test_witness_MarkerAfterTwentyFourBitsStoresTheWord : ∀ x ∈ [0#1, 1#1], ∀ v ∈ [50#32, 65535#32],
    let s := tick .default { Regs.reset with state := 5#4, widx := x, acc := 0x2800#63, weight := 0x1000000#64, dur := v }
      false false
    (s.cfg.legal = true ∧ s.pins = tickPins false false ∧ s.regs.state = sBitMeas) ∧ s.cfg.threshold ≤ s.regs.dur.toNat ∧
      s.regs.weight.toNat = 2 ^ 24 ∧ (s.regs.widx = 0#1 ∨ s.regs.widx = 1#1) := by
  intro x hx v hv; fin_cases hx <;> fin_cases hv <;> decide

theorem test_witness_MarkerAfterTwentyFourBitsStoresTheWord_invariant :
    ∃ r : Regs, RegsInv .default r ∧ r.state = sBitMeas ∧ r.weight.toNat = 2 ^ 24 :=
  ⟨_, regsInv_marker .default 0#1 (by decide), rfl, by decide⟩

theorem test_witness_ConvertComputesBothMeasurements :
    (tick .default { Regs.reset with state := 6#4 } true false).tickAt sConvert true false := ⟨by decide, rfl, rfl⟩
theorem test_witness_EmitDeliversTheFrameAndClearsIt :
    (tick .default { Regs.reset with state := 7#4 } true false).tickAt sEmit true false := ⟨by decide, rfl, rfl⟩
theorem test_witness_DiscardReportsTheErrorSetAndClearsTheFrame :
    (tick .default { Regs.reset with state := 8#4, err := 1#3 } true false).tickAt sDiscard true false := ⟨by decide, rfl, rfl⟩

/-- Two machines that agree on what BIT.MEAS.NEXT reads and differ elsewhere; both complete. -/
theorem test_witness_OperationsObeyTheAccessTable :
    let s := machine .default { Regs.reset with raw0 := 1#24 } []
    let u := machine .default { Regs.reset with raw0 := 2#24, err := 4#3 } []
    s.cfg = u.cfg ∧ (∀ r ∈ readsOf .bitMeasNext, s.regs.value r = u.regs.value r) ∧
      (∃ t, exec .bitMeasNext s = .next t) ∧ ∃ v, exec .bitMeasNext u = .next v :=
  ⟨rfl, by decide, ⟨_, rfl⟩, ⟨_, rfl⟩⟩

theorem test_witness_StepRunsTheDecodedOperation :
    let s := tick .default { Regs.reset with state := 8#4, err := 2#3 } false false
    s.cfg.legal = true ∧ decode s.sel s.guards = .ok .discard ∧ ∃ t, exec .discard s = .next t :=
  ⟨by decide, by decide, _, rfl⟩

theorem test_witness_DecoderIsTheOpcodeTable :
    selRst 0xFF#8 = true ∧ selTick 0x7B#8 = false ∧ (selState 0x04#8).toNat ≤ 8 ∧ (selState 0x47#8).toNat ≤ 8 := by decide

/-- Every guarded operation has guards under which it is encoded, the operand at both values. -/
theorem test_witness_DecodeOfEncodeIsTheOperation :
    Instr.syncMeasAccept.rowGuard ⟨true, false, false, true⟩ = true ∧ Instr.syncMeasShort.rowGuard Guards.atReset = true ∧
      Instr.bitMeasNext.rowGuard Guards.atReset = true ∧ Instr.bitMeasBound.rowGuard ⟨false, false, true, true⟩ = true ∧
      Instr.bitMeasWord0.rowGuard ⟨true, true, false, true⟩ = true ∧
      Instr.bitMeasWord1.rowGuard ⟨true, true, false, false⟩ = true ∧
      Instr.bitMeasBadlen.rowGuard ⟨true, false, false, false⟩ = true ∧
      (Instr.bitSampleOk true).rowGuard Guards.atReset = true ∧ (Instr.bitSampleOk false).wf = true := by decide

theorem test_witness_IgnoredInputsDoNotMatter :
    decode 0x36#8 Guards.atReset = .ok .convert ∧ (0x36#8 ^^^ 0x35#8) &&& ~~~Instr.convert.ignoredMask = 0#8 := by decide

theorem test_witness_LineLevelsAreUsedOnlyWhereSaid : ∀ x ∈ [0#4, 4#4, 6#4, 7#4, 8#4], x ≠ sBitSample := by
  intro x hx; fin_cases hx <;> decide

theorem test_witness_TransitionTableHolds : ∀ x ∈ [0#4, 3#4, 5#4, 8#4],
    let s := tick .default { Regs.reset with state := x } false true
    s.cfg.legal = true ∧ s.pins = tickPins false true ∧ s.regs.state.toNat ≤ 8 := by
  intro x hx; fin_cases hx <;> decide

theorem test_witness_UnusedStateCodesAreRefused :
    (selRst 0x4C#8 = false ∧ selTick 0x4C#8 = true ∧ 9 ≤ (selState 0x4C#8).toNat) ∧
      ∀ x ∈ [9#4, 15#4], ∀ p ∈ [(⟨true, true, false, false⟩ : Pins), ⟨false, false, true, true⟩, tickPins true false],
        let s := machine .default { Regs.reset with state := x } [p]
        s.cfg.legal = true ∧ 9 ≤ s.regs.state.toNat ∧
          (s.pins.rst = true ∨ (s.pins.rst = false ∧ s.pins.tick = false) ∨ s.pins.rst = false ∧ s.pins.tick = true) := by
  decide

theorem test_witness_IllegalConfigurationsAreRefused :
    (machine { Config.default with threshold := 1 } Regs.reset []).cfg.legal = false := by decide

/-- A machine whose registers obey the invariant and that has delivered nothing obeys it. -/
theorem inv_of_regsInv {c : Config} {r : Regs} (h : RegsInv c r) (hc : c.legal = true) (l : List Pins) : Inv (machine c r l) :=
  ⟨hc, h, fun x hx => absurd hx (by simp [machine, State.reset]), fun x hx => absurd hx (by simp [machine, State.reset]),
    by simp [machine, State.reset]⟩

/-- A marker that ends word 1: the step goes to S_CONVERT. -/
theorem test_witness_InvariantIsKeptByEveryStep :
    let s := tick .default { Regs.reset with
        state := sBitMeas, widx := 1#1, acc := 0x002800#63, weight := 0x1000000#64,
        dur := 50#32 } false false
    Inv s ∧ ∃ t, step s = .next t ∧ t.regs.state = sConvert :=
  ⟨inv_of_regsInv (regsInv_marker .default 1#1 (by decide)) (by decide) _, _, rfl, rfl⟩

theorem test_witness_InvariantHoldsAtReset : AtReset (machine cfgT2 Regs.reset [tickPins true true]) :=
  ⟨by decide, rfl, rfl⟩

/-- A short run from reset: a low tick, a marker of two ticks, and one bit cell. -/
def shortRun : State := machine cfgT2 Regs.reset
  [tickPins false false, tickPins true false, tickPins true false, tickPins false false, tickPins false true,
    tickPins true false, tickPins true true, tickPins false false, tickPins false false]

theorem reachable_shortRun (n : Nat) : Reachable (after n shortRun) :=
  reachable_after n (.start _ ⟨by decide, rfl, rfl⟩)

/-- The run reaches each of the states the statement speaks of. -/
theorem test_witness_ReachableRegistersObeyTheInvariants :
    Reachable (after 5 shortRun) ∧ (after 0 shortRun).regs.state = sSyncArm ∧ (after 1 shortRun).regs.state = sSyncWait ∧
      (after 3 shortRun).regs.state = sSyncMeas ∧ (after 4 shortRun).regs.state = sBitSample ∧
      (after 4 shortRun).regs.widx = 0#1 ∧ (after 5 shortRun).regs.state = sBitWait ∧
      (after 7 shortRun).regs.state = sBitMeas ∧ (after 8 shortRun).regs.state = sDiscard :=
  ⟨reachable_shortRun 5, by decide, by decide, by decide, by decide, by decide, by decide, by decide, by decide⟩

/-- A state no run reaches: WEIGHT is no power of two; it fits, and it steps. -/
theorem test_witness_RegistersStayInsideTheirWidths :
    let s := tick .default { Regs.reset with state := 4#4, weight := 0x1FFFFFFF#64, acc := 0xFFFFFFF#63 } true true
    RegsFit s.cfg s.regs ∧ ∃ t, step s = .next t := ⟨⟨by decide, by decide, by decide⟩, _, rfl⟩

theorem test_witness_ReachableStatesAlwaysStep : Reachable (after 7 shortRun) := reachable_shortRun 7

/-- The step to CONVERTING. -/
theorem test_witness_TicksFollowTheStateGraph :
    let s := tick .default { Regs.reset with
        state := sBitMeas, widx := 1#1, acc := 0x002800#63, weight := 0x1000000#64,
        dur := 50#32 } false false
    Inv s ∧ s.pins = tickPins false false ∧ ∃ t, step s = .next t ∧ t.regs.docState = some .converting :=
  ⟨inv_of_regsInv (regsInv_marker .default 1#1 (by decide)) (by decide) _, rfl, _, rfl, rfl⟩

theorem test_witness_EventsComeFromEmitAndDiscardOnly :
    (∃ t, step (tick .default { Regs.reset with state := 7#4 } true true) = .next t) ∧
      (∃ t, step (tick .default { Regs.reset with state := 8#4, err := 1#3 } true true) = .next t) ∧
      ∃ t, step (machine .default { Regs.reset with state := 7#4 } [⟨true, true, false, false⟩]) = .next t :=
  ⟨⟨_, rfl⟩, ⟨_, rfl⟩, ⟨_, rfl⟩⟩

/-- A tick with each strobe at 1, and an edge between ticks. -/
theorem test_witness_OutputPortsAreGated :
    (∃ t, step (tick .default { Regs.reset with state := 7#4 } true true) = .next t) ∧
      (∃ t, step (tick .default { Regs.reset with state := 8#4, err := 1#3 } true true) = .next t) ∧
      (machine .default { Regs.reset with state := 7#4 } [⟨false, false, true, false⟩]).pins.tick = false ∧
      ∃ t, step (machine .default { Regs.reset with state := 7#4 } [⟨false, false, true, false⟩]) = .next t :=
  ⟨⟨_, rfl⟩, ⟨_, rfl⟩, rfl, _, rfl⟩

/-- The marker that closes the one cell of the short run is a WordLengthMismatch. -/
theorem test_witness_DeliveredEventsAreWellFormed_discard :
    Reachable (after 9 shortRun) ∧ (⟨8, .discard 0b100#3⟩ : Emission) ∈ (after 9 shortRun).events :=
  ⟨reachable_shortRun 9, by decide⟩

/-- Registers of S_EMIT obey the invariant. -/
theorem regsInv_emit : RegsInv .default { Regs.reset with
        state := sEmit, widx := 1#1, raw0 := 0x002800#24,
        raw1 := 0x002800#24, meas0 := 0x402966608729548D#64, meas1 := 0xC02966608729548D#64 } where
  code := by decide
  fresh h := absurd h (by decide)
  measuring h := absurd h (by decide)
  receiving h := absurd h (by decide)
  sampling h := absurd h (by decide)
  waiting h := absurd h (by decide)
  pulse h := absurd h (by decide)
  converting h := absurd h (by decide)
  emitting _ := by decide
  discarding h := absurd h (by decide)

theorem test_witness_DeliveredEventsAreWellFormed_emit :
    let s := tick .default { Regs.reset with
        state := sEmit, widx := 1#1, raw0 := 0x002800#24, raw1 := 0x002800#24,
        meas0 := 0x402966608729548D#64, meas1 := 0xC02966608729548D#64 } true false
    Inv s ∧ ∃ t, step s = .next t ∧
      (⟨0, .emit 0x002800#24 0x002800#24 0x402966608729548D#64 0xC02966608729548D#64⟩ : Emission) ∈ t.events :=
  ⟨inv_of_regsInv regsInv_emit (by decide) _, _, rfl, by decide⟩

/-- Each of the three errors, from registers that obey the invariant. -/
theorem test_witness_ErrorEntryAndReturnArePrecise_glitch :
    let s := machine .default { Regs.reset with state := sBitSample, acc := 0#63, weight := 1#64 }
      [tickPins true true, tickPins false true]
    Inv s ∧ ∃ t, step s = .next t ∧ t.regs.state = sDiscard :=
  ⟨inv_of_regsInv (regsInv_sample _ _ 0 (by decide) (by decide) (by decide)) (by decide) _, _, rfl, rfl⟩
theorem regsInv_measuring : RegsInv .default { Regs.reset with state := sSyncMeas, dur := 49#32 } where
  code := by decide
  fresh h := absurd h (by decide)
  measuring _ := by decide
  receiving h := absurd h (by decide)
  sampling h := absurd h (by decide)
  waiting h := absurd h (by decide)
  pulse h := absurd h (by decide)
  converting h := absurd h (by decide)
  emitting h := absurd h (by decide)
  discarding h := absurd h (by decide)
theorem test_witness_ErrorEntryAndReturnArePrecise_short :
    let s := machine .default { Regs.reset with state := sSyncMeas, dur := 49#32 } [tickPins false true, tickPins true true]
    Inv s ∧ ∃ t, step s = .next t ∧ t.regs.state = sDiscard :=
  ⟨inv_of_regsInv regsInv_measuring (by decide) _, _, rfl, rfl⟩
theorem test_witness_ErrorEntryAndReturnArePrecise_length : Inv (after 7 shortRun) ∧
    (after 7 shortRun).stimulus = [tickPins false false, tickPins false false] ∧
      ∃ t, step (after 7 shortRun) = .next t ∧ t.regs.state = sDiscard := by
  refine ⟨⟨by decide, ?_, fun x hx => absurd hx (by decide +revert), fun x hx => absurd hx (by decide +revert), by decide⟩,
    by decide, _, rfl, by decide⟩
  exact { code := by decide, fresh := fun h => absurd h (by decide), measuring := fun h => absurd h (by decide),
          receiving := fun _ => ⟨by decide, by decide, by decide, by decide, by decide⟩,
          sampling := fun h => absurd h (by decide), waiting := fun h => absurd h (by decide),
          pulse := fun _ => ⟨⟨1, by decide, by decide, by decide⟩, by decide, by decide, by decide⟩,
          converting := fun h => absurd h (by decide), emitting := fun h => absurd h (by decide),
          discarding := fun h => absurd h (by decide) }

/-- Two machines with different pasts. -/
theorem test_witness_NothingOfAFrameOutlivesItsEvent :
    ((tick .default { Regs.reset with state := 7#4 } true false).tickAt sEmit true false ∧
      (tick .default { Regs.reset with state := 8#4, err := 2#3 } true false).tickAt sDiscard true false) ∧
    let s := machine .default { Regs.reset with state := 8#4, err := 2#3 } [tickPins true false, tickPins false false]
    let u := { s with edge := 7, tickNo := 5, events := [⟨3, .discard 1#3⟩] }
    s.cfg = u.cfg ∧ s.regs = u.regs ∧ s.stimulus = u.stimulus ∧ 2 ≤ s.stimulus.length ∧
      ∃ t, Host.Core.run core 2 s = .next t :=
  ⟨⟨⟨by decide, rfl, rfl⟩, ⟨by decide, rfl, rfl⟩⟩, rfl, rfl, rfl, by decide, _, rfl⟩

theorem test_witness_WaitsAreUnbounded : ∀ x ∈ [0#4, 1#4, 4#4],
    let s := machine .default { Regs.reset with state := x } ([true, false].map (tickPins (decide (x = 0#4))) ++ [])
    s.cfg.legal = true ∧ (s.regs.state = sSyncArm ∧ s.stimulus = [true, false].map (tickPins true) ++ [] ∨
      (s.regs.state = sSyncWait ∨ s.regs.state = sBitWait) ∧ s.stimulus = [true, false].map (tickPins false) ++ []) := by
  intro x hx; fin_cases hx <;> decide

theorem test_witness_PulsesAreCountedWithHarmlessSaturation : ∀ x ∈ [2#4, 5#4], ∀ v ∈ [1#32, 7#32],
    let s := machine cfgCw3 { Regs.reset with state := x, dur := v } ([true, false].map (tickPins true) ++ [])
    s.cfg.legal = true ∧ (s.regs.state = sSyncMeas ∨ s.regs.state = sBitMeas) ∧ s.regs.dur.toNat ≤ 2 ^ s.cfg.cw - 1 ∧
      s.stimulus = [true, false].map (tickPins true) ++ [] := by
  intro x hx v hv; fin_cases hx <;> fin_cases hv <;> decide

theorem test_witness_AfterResetAPulseInProgressIsSkipped : ∀ ds ∈ [[], [true, false]],
    let s := machine .default Regs.reset (ds.map (tickPins true) ++ tickPins false true :: [])
    s.cfg.legal = true ∧ s.regs = Regs.reset ∧ s.stimulus = ds.map (tickPins true) ++ tickPins false true :: [] := by
  intro ds hds; fin_cases hds <;> decide

/-- A pulse of one tick less than THRESHOLD and one of THRESHOLD; after its end nothing written down, a high tick, or two
ticks, the second of them high or low. -/
theorem test_witness_SynchroniserClassifiesEveryPulse : ∀ highs ∈ [[true], [true, false]],
    ∀ l ∈ [[], [tickPins true true], [tickPins false true, tickPins true false], [tickPins true true, tickPins false false]],
    let s := machine cfgT2 { Regs.reset with state := sSyncWait } ([false].map (tickPins false) ++ (highs.map (tickPins true) ++
      tickPins false true :: l))
    s.cfg.legal = true ∧ s.regs = { Regs.reset with state := sSyncWait } ∧ highs ≠ [] ∧
      (s.cfg.threshold ≤ highs.length ∨ highs.length < s.cfg.threshold) := by
  intro highs hh l hl; fin_cases hh <;> fin_cases hl <;> decide

/-- The cells of a word with uniform timing: low phases of two ticks, short pulses of one, a marker of two. -/
def wireCells (v : Nat) : List Cell :=
  (List.range 24).map fun k => ⟨true, v.testBit k, [], if k = 23 then [true, false] else [false]⟩

theorem wireWord_wireCells (v : Raw) : WireWord cfgT2 (wireCells v.toNat) v where
  count := by simp [wireCells]
  bits := fun k hk => by simp [wireCells]
  shorts := fun k hk h => by simp [wireCells, Cell.short, cfgT2, show k ≠ 23 by omega]
  closing := fun _ => by simp [wireCells, Cell.marker, cfgT2]

/-- A whole frame from reset, the shortest kind that reaches S_CONVERT and S_EMIT. -/
def frameRun : State := machine cfgT2 Regs.reset
  (tickPins false false :: tickPins true false :: tickPins true false :: (cellTicks (wireCells 0x002800) ++
    (cellTicks (wireCells 0x800001) ++ [tickPins false false, tickPins false false, tickPins false false])))

/-- Word 0 is stored at the 77th step, word 1 at the 150th; then both words are kept. -/
theorem test_witness_ReachableRegistersObeyTheInvariants_frame :
    Reachable (after 150 frameRun) ∧ (after 76 frameRun).regs.widx = 0#1 ∧ (after 77 frameRun).regs.widx = 1#1 ∧
      (after 149 frameRun).regs.widx = 1#1 ∧ (after 149 frameRun).regs.state = sBitMeas ∧
      (after 150 frameRun).regs.state = sConvert ∧ (after 151 frameRun).regs.state = sEmit :=
  ⟨reachable_after 150 (.start _ ⟨by decide, rfl, rfl⟩), by decide +kernel⟩

theorem test_witness_WellFramedWordIsReceived : ∀ x ∈ [0#1, 1#1],
    let s := machine cfgT2 { Regs.reset with state := sBitSample, widx := x }
      ((cellTicks (wireCells 0xABCDEF)).tail ++ tickPins false true :: [])
    s.cfg.legal = true ∧ s.regs.state = sBitSample ∧ s.regs.acc = 0#63 ∧ s.regs.weight = 1#64 ∧ s.regs.dur = 0#32 ∧
      WireWord s.cfg (wireCells 0xABCDEF) 0xABCDEF#24 :=
  fun _ _ => ⟨(by decide : cfgT2.legal = true), rfl, rfl, rfl, rfl, wireWord_wireCells 0xABCDEF#24⟩

/-- One cell, 23 cells and, with MAX_DOUBLINGS = 25, 25 cells, the last one closed by a short pulse and by a marker. -/
theorem test_witness_BadlyFramedWordsAreRejected : ∀ n ∈ [0, 22, 24], ∀ h ∈ [[true], [true, true, true, true, true]],
    let init := List.replicate n ⟨false, true, [], [true]⟩
    let last : Cell := ⟨false, true, [true], h⟩
    (init.length + 1 ≤ cfgMd25.maxDoublings ∧ (∀ k (h : k < (init ++ [last]).length), ((init ++ [last])[k]).bit =
        (0x1FFFFFF).testBit k)) ∧
      (∀ x ∈ init, 1 ≤ x.high.length ∧ x.high.length < cfgMd25.threshold) ∧
      (cfgMd25.threshold ≤ last.high.length ∧ init.length + 1 ≠ 24 ∨
        (1 ≤ last.high.length ∧ last.high.length < cfgMd25.threshold) ∧ init.length + 1 = cfgMd25.maxDoublings ∨
        (1 ≤ last.high.length ∧ last.high.length < cfgMd25.threshold) ∧ init.length + 1 < cfgMd25.maxDoublings) := by
  intro n hn h hh; fin_cases hn <;> fin_cases hh <;> decide

/-- n = 1, 24 and MAX_DOUBLINGS, with a marker and with a short last pulse. -/
theorem test_witness_WordMacroIsClassified : ∀ n ∈ [1, 24, 25], ∀ mk ∈ [1, 5],
    let s := machine cfgMd25 { Regs.reset with state := sBitSample } (stimulusOf (wordN 5 n 2 1 mk) ++ tickPins false false :: [])
    s.cfg.legal = true ∧ s.regs.state = sBitSample ∧ s.regs.acc = 0#63 ∧ s.regs.weight = 1#64 ∧ s.regs.dur = 0#32 ∧
      1 < s.cfg.threshold ∧ 1 ≤ n ∧ n ≤ s.cfg.maxDoublings ∧ (s.cfg.threshold ≤ mk ∨ mk = 1) := by
  intro n hn mk hmk; fin_cases hn <;> fin_cases hmk <;> decide

theorem test_witness_WellFormedFramesAreDecoded :
    let s := machine cfgT2 Regs.reset ([true].map (tickPins false) ++ ([true, false].map (tickPins true) ++
      (cellTicks (wireCells 0x002800) ++ (cellTicks (wireCells 0xFFFFFF) ++
        (tickPins false true :: tickPins true true :: tickPins false true :: [])))))
    s.cfg.legal = true ∧ s.regs = Regs.reset ∧ [true] ≠ [] ∧ s.cfg.threshold ≤ [true, false].length ∧
      WireWord s.cfg (wireCells 0x002800) 0x002800#24 ∧ WireWord s.cfg (wireCells 0xFFFFFF) 0xFFFFFF#24 :=
  ⟨by decide, rfl, by decide, by decide, wireWord_wireCells 0x002800#24, wireWord_wireCells 0xFFFFFF#24⟩

theorem test_witness_MacroLengths : 1 ≤ 1 := le_refl 1

theorem test_witness_UniformFrameEventTick :
    let s := machine .default Regs.reset (stimulusOf (idle 1 ++ frame 0x002800 0x800000 2 49 50 ++ idle 3) ++ [])
    s.cfg.legal = true ∧ s.regs = Regs.reset ∧ s.tickNo = 0 ∧ 49 < s.cfg.threshold ∧ s.cfg.threshold ≤ 50 :=
  ⟨by decide, rfl, rfl, by decide, by decide⟩

theorem test_witness_BlindTicksAfterAGoodFrame :
    let s := machine .default { Regs.reset with state := sConvert, raw0 := 5#24 } (tickPins true false :: tickPins false true ::
      ([true].map (tickPins true) ++ tickPins false false :: []))
    s.cfg.legal = true ∧ s.regs.state = sConvert := by decide

theorem test_witness_PulseAfterAGlitchIsSkipped :
    let s := machine .default { Regs.reset with state := sBitSample, acc := 5#63 } (tickPins true false :: tickPins true true ::
      ([true].map (tickPins true) ++ tickPins false false :: []))
    s.cfg.legal = true ∧ s.regs.state = sBitSample ∧ s.regs.err = 0#3 := by decide

theorem test_witness_IntegerConversionIsExact : (-2 ^ 53 : Int).natAbs ≤ 2 ^ 53 ∧ (8388607 : Int).natAbs ≤ 2 ^ 53 := by decide

/-- The number a positive normal pattern denotes, for the operands below. -/
theorem f64Value_of_fields {a : F64} {m e : Nat} (h : f64IsNormal a = true ∧ f64Sign a = false ∧ f64Significand a = m ∧
    f64Exp a = e) : f64Value a = (m : ℚ) * (2 : ℚ) ^ ((e : ℤ) - 1075) := by
  obtain ⟨h1, h2, rfl, rfl⟩ := h
  rw [f64Value_of_normal h1, h2]
  simp

theorem test_witness_ProductIsRoundedToNearestEven_zero :
    f64Ok 0x8000000000000000#64 ∧ f64Ok 0x3FF0000000000000#64 ∧ f64IsZero 0x8000000000000000#64 = true :=
  ⟨.inl (by decide), .inr (by decide), by decide⟩
/-- 1.5 * 1.5 = 2.25, with e = 1. -/
theorem test_witness_ProductIsRoundedToNearestEven_normal :
    f64Ok 0x3FF8000000000000#64 ∧
      (2 : ℚ) ^ (1 : ℤ) ≤ |f64Value 0x3FF8000000000000#64 * f64Value 0x3FF8000000000000#64| ∧
      |f64Value 0x3FF8000000000000#64 * f64Value 0x3FF8000000000000#64| < (2 : ℚ) ^ ((1 : ℤ) + 1) ∧ (-1022 : ℤ) ≤ 1 ∧
      |f64Value 0x3FF8000000000000#64 * f64Value 0x3FF8000000000000#64| < 2 ^ 1024 - 2 ^ 970 := by
  have h : f64Value 0x3FF8000000000000#64 = 3 / 2 := by
    rw [f64Value_of_fields (m := 6755399441055744) (e := 1023) (by decide)]; norm_num
  have h1 : (2 : ℚ) ^ 2 ≤ 2 ^ 970 := pow_le_pow_right₀ (by norm_num) (by norm_num)
  have h2 : (2 : ℚ) ^ 1024 = 2 ^ 970 * 2 ^ 54 := by rw [← pow_add]
  rw [h, h2]
  refine ⟨.inr (by decide), ?_, ?_, by decide, ?_⟩
  · norm_num [abs_of_pos]
  · norm_num [abs_of_pos]
  · rw [abs_of_pos (by norm_num)]
    generalize (2 : ℚ) ^ 970 = x at h1
    norm_num at h1 ⊢
    linarith

/-- (1 + 2^-52) * 1.5, with e = 0, lies half-way between two multiples of 2^-52: 6755399441055745 and 6755399441055746 of
them. -/
theorem test_witness_ProductIsRoundedToNearestEven_tie :
    f64Ok 0x3FF0000000000001#64 ∧ f64Ok 0x3FF8000000000000#64 ∧
      (2 : ℚ) ^ (0 : ℤ) ≤ |f64Value 0x3FF0000000000001#64 * f64Value 0x3FF8000000000000#64| ∧
      |f64Value 0x3FF0000000000001#64 * f64Value 0x3FF8000000000000#64| < (2 : ℚ) ^ ((0 : ℤ) + 1) ∧
      |(|f64Value 0x3FF0000000000001#64 * f64Value 0x3FF8000000000000#64|) - (6755399441055746 : ℕ) * (2 : ℚ) ^ ((0 : ℤ) - 52)| =
        (2 : ℚ) ^ ((0 : ℤ) - 52) / 2 := by
  have ha : f64Value 0x3FF0000000000001#64 = 4503599627370497 / 2 ^ 52 := by
    rw [f64Value_of_fields (m := 4503599627370497) (e := 1023) (by decide)]; norm_num
  have hb : f64Value 0x3FF8000000000000#64 = 3 / 2 := by
    rw [f64Value_of_fields (m := 6755399441055744) (e := 1023) (by decide)]; norm_num
  rw [ha, hb]
  refine ⟨.inr (by decide), .inr (by decide), ?_, ?_, ?_⟩ <;> norm_num [abs_of_pos, abs_of_neg]

/-- The tie goes to the even multiple (R103). -/
theorem test_product_tie_to_even : fmul 0x3FF0000000000001#64 0x3FF8000000000000#64 = 0x3FF8000000000002#64 := by decide

theorem test_witness_NegationFlipsTheSignBitOnly : f64Ok 0x3F5451E6D28776D7#64 ∧ f64Ok 0x8000000000000000#64 :=
  ⟨.inr (by decide), .inl (by decide)⟩

/-- The default scale and the smallest legal one, the raw words at the ends of the range. -/
theorem test_witness_MeasurementsAreZeroOrNormal :
    Config.default.legal = true ∧ ({ Config.default with scale := 0x0010000000000000#64 } : Config).legal = true ∧
      sint24 0x000000#24 = 0 ∧ sint24 0x800000#24 ≠ 0 ∧ sint24 0x000001#24 ≠ 0 := by decide
theorem test_witness_MeasurementsRoundTripAndAreMonotone :
    cfgExact.legal = true ∧ sint24 0x800000#24 < sint24 0x800001#24 ∧ sint24 0xFFFFFF#24 < sint24 0x000000#24 ∧
      mm cfgExact.scale 0x000001#24 = mm cfgExact.scale 0x000001#24 := by decide

end Sys2Proof.Machine.Tests
end

/-! ### Scope (spec/00_scope.md): a step is the decoded operation, legality, and runs that never stop -/

namespace Sys2Proof.Machine

/-- Settles O19: a step runs the decoded operation and ends the edge, and the end of an edge writes these three fields. -/
theorem stepRunsTheDecodedOperation : Obligations.StepRunsTheDecodedOperation := by
  intro s t i hlegal hdec hexec
  rw [step_of_exec hlegal hdec hexec]
  simp [State.endEdge]

/-! #### The magnitude of a normal binary64 number -/

/-- The significand of a normal number has 53 bits. -/
theorem f64Significand_bounds (a : F64) : 2 ^ 52 ≤ f64Significand a ∧ f64Significand a < 2 ^ 53 := by
  have hfrac : f64Frac a < 2 ^ 52 := (a.extractLsb' 0 52).isLt
  unfold f64Significand
  omega

/-- A normal number is positive exactly when its sign bit is 0. -/
theorem f64Value_pos_iff {a : F64} (h : f64IsNormal a = true) : 0 < f64Value a ↔ f64Sign a = false := by
  have hsig : (0 : ℚ) < f64Significand a := Nat.cast_pos.2 (by have := f64Significand_bounds a; omega)
  have hmag : 0 < (f64Significand a : ℚ) * (2 : ℚ) ^ ((f64Exp a : ℤ) - 1075) := by positivity
  rw [f64Value_of_normal h, mul_assoc]
  cases f64Sign a
  · simpa using hmag
  · simpa using hmag.le

/-- A positive normal number lies in the binade its exponent field names. -/
theorem f64Value_binade {a : F64} (h : f64IsNormal a = true) (hs : f64Sign a = false) :
    (2 : ℚ) ^ ((f64Exp a : ℤ) - 1023) ≤ f64Value a ∧ f64Value a < (2 : ℚ) ^ ((f64Exp a : ℤ) - 1022) := by
  obtain ⟨hlo, hhi⟩ := f64Significand_bounds a
  have hlo' : (2 : ℚ) ^ (52 : ℤ) ≤ f64Significand a := by exact_mod_cast hlo
  have hhi' : (f64Significand a : ℚ) < (2 : ℚ) ^ (53 : ℤ) := by exact_mod_cast hhi
  have hunit : (0 : ℚ) < (2 : ℚ) ^ ((f64Exp a : ℤ) - 1075) := by positivity
  have hvalue : f64Value a = (f64Significand a : ℚ) * (2 : ℚ) ^ ((f64Exp a : ℤ) - 1075) := by
    simp [f64Value_of_normal h, hs]
  rw [hvalue, show (f64Exp a : ℤ) - 1023 = 52 + (f64Exp a - 1075) by ring,
    show (f64Exp a : ℤ) - 1022 = 53 + (f64Exp a - 1075) by ring, zpow_add₀ two_ne_zero, zpow_add₀ two_ne_zero]
  exact ⟨mul_le_mul_of_nonneg_right hlo' hunit.le, mul_lt_mul_of_pos_right hhi' hunit⟩

/-- A positive normal number is below a power of two exactly when its exponent field says so; the fraction plays no part. -/
theorem f64Value_lt_two_zpow_iff {a : F64} (h : f64IsNormal a = true) (hs : f64Sign a = false) (k : ℤ) :
    f64Value a < (2 : ℚ) ^ k ↔ (f64Exp a : ℤ) - 1023 < k := by
  obtain ⟨hlo, hhi⟩ := f64Value_binade h hs
  constructor
  · intro hlt
    exact (zpow_lt_zpow_iff_right₀ one_lt_two).1 (hlo.trans_lt hlt)
  · intro hexp
    exact hhi.trans_le (zpow_le_zpow_right₀ one_le_two (by omega))

/-! #### Legality -/

/-- R9: SCALE's bit test says that it denotes a positive normal number below 2^1001. -/
theorem scaleLegal_iff (c : Config) : c.scaleLegal = true ↔
    f64IsNormal c.scale = true ∧ 0 < f64Value c.scale ∧ f64Value c.scale < 2 ^ 1001 := by
  have hbits : c.scaleLegal = true ↔ f64Sign c.scale = false ∧ 1 ≤ f64Exp c.scale ∧ f64Exp c.scale < 2024 := by
    simp [Config.scaleLegal, f64Sign, f64Exp, and_assoc]
  have hnormal : f64IsNormal c.scale = true ↔ 1 ≤ f64Exp c.scale ∧ f64Exp c.scale ≤ 2046 := by
    simp [f64IsNormal]
  rw [hbits]
  constructor
  · rintro ⟨hsign, hmin, hmax⟩
    have hn := hnormal.2 ⟨hmin, by omega⟩
    exact ⟨hn, (f64Value_pos_iff hn).2 hsign, (f64Value_lt_two_zpow_iff hn hsign 1001).2 (by omega)⟩
  · rintro ⟨hn, hpos, hlt⟩
    have hsign := (f64Value_pos_iff hn).1 hpos
    have hexp := (f64Value_lt_two_zpow_iff hn hsign 1001).1 hlt
    exact ⟨hsign, (hnormal.1 hn).1, by omega⟩

/-- An illegal configuration is refused before anything is decoded. -/
theorem step_of_illegal {s : State} (h : s.cfg.legal = false) : step s = .refused .illegalConfiguration := by
  simp [step, h]

/-- Settles O27: each test of `Config.legal` is its range, SCALE's by the size of the number it denotes. -/
theorem illegalConfigurationsAreRefused : Obligations.IllegalConfigurationsAreRefused := by
  refine ⟨fun c => ?_, fun s => step_of_illegal⟩
  rw [Config.legal_iff, scaleLegal_iff]
  simp [Config.cwLegal, Config.thresholdLegal, Config.wordBitsLegal, Config.maxDoublingsLegal]

/-! #### Runs never stop -/

/-- No operation writes the configuration (R30). -/
theorem exec_cfg {i : Instr} {s t : State} (h : exec i s = .next t) : t.cfg = s.cfg := by
  obtain ⟨r, l, -, hshape⟩ := exec_shape i s
  cases hshape.symm.trans h
  rfl

/-- Every operation but HOLD writes one of the nine codes into STATE; HOLD keeps the code. -/
theorem exec_code_le {i : Instr} {s t : State} (hs : s.regs.state.toNat ≤ 8) (h : exec i s = .next t) :
    t.regs.state.toNat ≤ 8 := by
  cases i <;> cases h
  case hold => exact hs
  case reset | emit | discard => simp [Regs.reset]
  case syncMeasShort | bitSampleGlitch | bitMeasBound | bitMeasBadlen => simp [raise_eq]
  all_goals simp

/-- A step keeps the configuration. -/
theorem step_cfg {s t : State} (h : step s = .next t) : t.cfg = s.cfg := by
  obtain ⟨-, i, u, -, hexec, rfl⟩ := step_eq_next.1 h
  rw [endEdge_cfg, exec_cfg hexec]

/-- A step keeps out of the unused codes. -/
theorem step_code_le {s t : State} (hs : s.regs.state.toNat ≤ 8) (h : step s = .next t) : t.regs.state.toNat ≤ 8 := by
  obtain ⟨-, i, u, -, hexec, rfl⟩ := step_eq_next.1 h
  rw [endEdge_regs]
  exact exec_code_le hs hexec

/-- A tick selects an operation in each of the nine control states (R69). -/
theorem decodeTick_ok {st : BitVec 4} (h : st.toNat ≤ 8) (c d : Bool) (g : Guards) :
    ∃ i, decodeTick st c d g = .ok i := by
  unfold decodeTick
  generalize st.toNat = n at h
  interval_cases n <;> exact ⟨_, rfl⟩

/-- Outside the unused codes every edge selects an operation (R71). -/
theorem decode_ok {s : State} (h : s.regs.state.toNat ≤ 8) : ∃ i, decode s.sel s.guards = .ok i := by
  rw [State.sel, decode_selector]
  split
  · exact ⟨_, rfl⟩
  · split
    · exact decodeTick_ok h _ _ _
    · exact ⟨_, rfl⟩

/-- A legal configuration and a used state code are all that a step needs. -/
theorem step_next_of_code_le {s : State} (hlegal : s.cfg.legal = true) (hcode : s.regs.state.toNat ≤ 8) :
    ∃ t, step s = .next t := by
  obtain ⟨i, hdec⟩ := decode_ok hcode
  obtain ⟨u, hexec⟩ := exec_next i s
  exact ⟨_, step_of_exec hlegal hdec hexec⟩

/-- Every configuration in a run is legal (R11). -/
theorem Reachable.legal {s : State} (h : Reachable s) : s.cfg.legal = true := by
  induction h with
  | start s h0 => exact h0.legal
  | step s t _ hstep ih => rw [step_cfg hstep]; exact ih

/-- No run reaches an unused state code (10_state.md R40). -/
theorem Reachable.code_le {s : State} (h : Reachable s) : s.regs.state.toNat ≤ 8 := by
  induction h with
  | start s h0 => simp [h0.regs, Regs.reset]
  | step s t _ hstep ih => exact step_code_le ih hstep

/-- Settles O32: legality and a used state code hold in every reached state, and a step needs no more. -/
theorem reachableStatesAlwaysStep : Obligations.ReachableStatesAlwaysStep :=
  fun _ h => step_next_of_code_le h.legal h.code_le

end Sys2Proof.Machine

/-! ### State (spec/10_state.md): what each operation writes, the invariants of the registers, ports and doc-level state -/

namespace Sys2Proof.Machine

/-! #### Registers as records, and the two composed writes -/

/-- Registers are equal when all ten are. -/
@[ext] theorem Regs.ext {r q : Regs} (state : r.state = q.state) (widx : r.widx = q.widx) (acc : r.acc = q.acc)
    (weight : r.weight = q.weight) (dur : r.dur = q.dur) (raw0 : r.raw0 = q.raw0) (raw1 : r.raw1 = q.raw1)
    (err : r.err = q.err) (meas0 : r.meas0 = q.meas0) (meas1 : r.meas1 = q.meas1) : r = q := by
  cases r; cases q; simp_all

/-- The start of a word writes ACC, WEIGHT and DUR. -/
theorem beginWord_regs (s : State) :
    s.beginWord.regs = { s.regs with acc := 0#63, weight := 1#64, dur := 0#32 } := by
  rw [beginWord_eq]

/-- One more tick of a pulse writes DUR at most, whatever the configuration. -/
theorem countTick_writes_dur (s : State) :
    ∃ v, s.countTick = { s with regs := { s.regs with dur := v } } := by
  unfold State.countTick
  split
  · exact ⟨_, rfl⟩
  · exact ⟨_, rfl⟩

/-! #### Which edges select which operation -/

/-- The ticks that select each operation: control state, clock level and guards (30_encoding.md R68, R69), one constructor
for each row of the table that needs a tick. -/
inductive TickSelects (s : State) : Instr → Prop
  | syncArmHold (hs : s.regs.state = sSyncArm) (hc : s.pins.clkIn = true) : TickSelects s .syncArmHold
  | syncArmGo (hs : s.regs.state = sSyncArm) (hc : s.pins.clkIn = false) : TickSelects s .syncArmGo
  | syncWaitHold (hs : s.regs.state = sSyncWait) (hc : s.pins.clkIn = false) : TickSelects s .syncWaitHold
  | syncWaitRise (hs : s.regs.state = sSyncWait) (hc : s.pins.clkIn = true) : TickSelects s .syncWaitRise
  | syncMeasCount (hs : s.regs.state = sSyncMeas) (hc : s.pins.clkIn = true) : TickSelects s .syncMeasCount
  | syncMeasAccept (hs : s.regs.state = sSyncMeas) (hc : s.pins.clkIn = false)
      (hmark : s.cfg.threshold ≤ s.regs.dur.toNat) : TickSelects s .syncMeasAccept
  | syncMeasShort (hs : s.regs.state = sSyncMeas) (hc : s.pins.clkIn = false)
      (hmark : s.regs.dur.toNat < s.cfg.threshold) : TickSelects s .syncMeasShort
  | bitSampleOk (hs : s.regs.state = sBitSample) (hc : s.pins.clkIn = false) : TickSelects s (.bitSampleOk s.pins.dataIn)
  | bitSampleGlitch (hs : s.regs.state = sBitSample) (hc : s.pins.clkIn = true) : TickSelects s .bitSampleGlitch
  | bitWaitHold (hs : s.regs.state = sBitWait) (hc : s.pins.clkIn = false) : TickSelects s .bitWaitHold
  | bitWaitRise (hs : s.regs.state = sBitWait) (hc : s.pins.clkIn = true) : TickSelects s .bitWaitRise
  | bitMeasCount (hs : s.regs.state = sBitMeas) (hc : s.pins.clkIn = true) : TickSelects s .bitMeasCount
  | bitMeasNext (hs : s.regs.state = sBitMeas) (hc : s.pins.clkIn = false) (hmark : s.regs.dur.toNat < s.cfg.threshold)
      (hbound : s.regs.weight.toNat ≠ 2 ^ s.cfg.maxDoublings) : TickSelects s .bitMeasNext
  | bitMeasBound (hs : s.regs.state = sBitMeas) (hc : s.pins.clkIn = false) (hmark : s.regs.dur.toNat < s.cfg.threshold)
      (hbound : s.regs.weight.toNat = 2 ^ s.cfg.maxDoublings) : TickSelects s .bitMeasBound
  | bitMeasWord0 (hs : s.regs.state = sBitMeas) (hc : s.pins.clkIn = false) (hmark : s.cfg.threshold ≤ s.regs.dur.toNat)
      (hlen : s.regs.weight.toNat = 2 ^ s.cfg.wordBits) (hw : s.regs.widx = 0#1) : TickSelects s .bitMeasWord0
  | bitMeasWord1 (hs : s.regs.state = sBitMeas) (hc : s.pins.clkIn = false) (hmark : s.cfg.threshold ≤ s.regs.dur.toNat)
      (hlen : s.regs.weight.toNat = 2 ^ s.cfg.wordBits) (hw : s.regs.widx = 1#1) : TickSelects s .bitMeasWord1
  | bitMeasBadlen (hs : s.regs.state = sBitMeas) (hc : s.pins.clkIn = false) (hmark : s.cfg.threshold ≤ s.regs.dur.toNat)
      (hlen : s.regs.weight.toNat ≠ 2 ^ s.cfg.wordBits) : TickSelects s .bitMeasBadlen
  | convert (hs : s.regs.state = sConvert) : TickSelects s .convert
  | emit (hs : s.regs.state = sEmit) : TickSelects s .emit
  | discard (hs : s.regs.state = sDiscard) : TickSelects s .discard

/-- The decoder's choice at the end of a pulse, by the guards written out. -/
theorem tickSelects_decodePulseEnd {s : State} (hs : s.regs.state = sBitMeas) (hc : s.pins.clkIn = false) :
    TickSelects s (decodePulseEnd s.guards) := by
  by_cases hmark : s.cfg.threshold ≤ s.regs.dur.toNat
  · by_cases hlen : s.regs.weight.toNat = 2 ^ s.cfg.wordBits
    · rcases BitVec.eq_zero_or_eq_one s.regs.widx with hw | hw
      · simpa [decodePulseEnd, State.guards, State.mark, State.len, State.w0, hmark, hlen, hw]
          using TickSelects.bitMeasWord0 hs hc hmark hlen hw
      · simpa [decodePulseEnd, State.guards, State.mark, State.len, State.w0, hmark, hlen, hw]
          using TickSelects.bitMeasWord1 hs hc hmark hlen hw
    · simpa [decodePulseEnd, State.guards, State.mark, State.len, hmark, hlen]
        using TickSelects.bitMeasBadlen hs hc hmark hlen
  · have hshort := not_le.1 hmark
    by_cases hbound : s.regs.weight.toNat = 2 ^ s.cfg.maxDoublings
    · simpa [decodePulseEnd, State.guards, State.mark, State.bound, hmark, hbound]
        using TickSelects.bitMeasBound hs hc hshort hbound
    · simpa [decodePulseEnd, State.guards, State.mark, State.bound, hmark, hbound]
        using TickSelects.bitMeasNext hs hc hshort hbound

/-- What the decoder reads at a tick, that tick selects. -/
theorem tickSelects_of_decodeTick {s : State} {i : Instr}
    (h : decodeTick s.regs.state s.pins.clkIn s.pins.dataIn s.guards = .ok i) : TickSelects s i := by
  have code : ∀ {n : Nat} {v : BitVec 4}, s.regs.state.toNat = n → v.toNat = n → s.regs.state = v :=
    fun hn hv => BitVec.eq_of_toNat_eq (hn.trans hv.symm)
  unfold decodeTick at h
  split at h <;> cases h
  case h_1 hn => cases hc : s.pins.clkIn; exacts [.syncArmGo (code hn rfl) hc, .syncArmHold (code hn rfl) hc]
  case h_2 hn => cases hc : s.pins.clkIn; exacts [.syncWaitHold (code hn rfl) hc, .syncWaitRise (code hn rfl) hc]
  case h_3 hn =>
    cases hc : s.pins.clkIn
    · by_cases hmark : s.cfg.threshold ≤ s.regs.dur.toNat
      · simpa [State.guards, State.mark, hmark] using TickSelects.syncMeasAccept (code hn rfl) hc hmark
      · simpa [State.guards, State.mark, hmark] using TickSelects.syncMeasShort (code hn rfl) hc (not_le.1 hmark)
    · exact .syncMeasCount (code hn rfl) hc
  case h_4 hn => cases hc : s.pins.clkIn; exacts [.bitSampleOk (code hn rfl) hc, .bitSampleGlitch (code hn rfl) hc]
  case h_5 hn => cases hc : s.pins.clkIn; exacts [.bitWaitHold (code hn rfl) hc, .bitWaitRise (code hn rfl) hc]
  case h_6 hn =>
    cases hc : s.pins.clkIn
    exacts [tickSelects_decodePulseEnd (code hn rfl) hc, .bitMeasCount (code hn rfl) hc]
  case h_7 hn => exact .convert (code hn rfl)
  case h_8 hn => exact .emit (code hn rfl)
  case h_9 hn => exact .discard (code hn rfl)

/-- The edges that select each operation: `rst` first, then `tick` (30_encoding.md R71). -/
inductive Selects (s : State) : Instr → Prop
  | reset (hrst : s.pins.rst = true) : Selects s .reset
  | hold (hrst : s.pins.rst = false) (htick : s.pins.tick = false) : Selects s .hold
  | tick {i : Instr} (hrst : s.pins.rst = false) (htick : s.pins.tick = true) (h : TickSelects s i) : Selects s i

/-- What the decoder reads at an edge, that edge selects. -/
theorem selects_of_decode {s : State} {i : Instr} (h : decode s.sel s.guards = .ok i) : Selects s i := by
  rw [State.sel, decode_selector] at h
  split at h
  case isTrue hrst => cases h; exact .reset hrst
  case isFalse hrst =>
    have hrst := Bool.eq_false_iff.2 hrst
    split at h
    case isTrue htick => exact .tick hrst htick (tickSelects_of_decodeTick h)
    case isFalse htick => cases h; exact .hold hrst (Bool.eq_false_iff.2 htick)

/-- What a step can do: it runs the operation its edge selects, and the edge ends. -/
theorem step_selects {s t : State} (h : step s = .next t) :
    s.cfg.legal = true ∧ ∃ i u, Selects s i ∧ exec i s = .next u ∧ t = u.endEdge s.pins := by
  obtain ⟨hlegal, i, u, hdec, hexec, rfl⟩ := step_eq_next.1 h
  exact ⟨hlegal, i, u, selects_of_decode hdec, hexec, rfl⟩

/-! #### The event of an operation, and what it leaves unchanged -/

/-- An operation changes the registers and adds its event to the log at the present tick; nothing else. -/
theorem exec_record {i : Instr} {s t : State} (h : exec i s = .next t) :
    t = { s with regs := t.regs,
                 events := s.events ++ (eventOf i s.regs).toList.map fun e => ⟨s.tickNo, e⟩ } := by
  have silent : ∀ r : Regs, ({ s with regs := r } : State) =
      { s with regs := r, events := s.events ++ (none : Option Event).toList.map fun e => ⟨s.tickNo, e⟩ } :=
    fun r => by simp
  cases i <;> cases h
  case emit | discard => rfl
  case syncMeasCount | bitMeasCount =>
    obtain ⟨v, hv⟩ := countTick_writes_dur s
    rw [hv]
    exact silent _
  case bitSampleOk d => cases d <;> exact silent _
  all_goals exact silent _

/-! #### The registers' invariant, one control state at a time -/

section
variable {c : Config} {r : Regs}

/-- R34 is all the invariant says in S_SYNC_ARM and S_SYNC_WAIT. -/
theorem RegsInv.of_fresh (hs : r.state = sSyncArm ∨ r.state = sSyncWait) (h : r = { Regs.reset with state := r.state }) :
    RegsInv c r := by
  rcases hs with hs | hs <;> constructor
  case inl.fresh | inr.fresh => exact fun _ => h
  case inl.code | inr.code => simp [hs]
  all_goals rw [hs]; exact fun h => absurd h (by decide)

/-- R35 is all it says in S_SYNC_MEAS. -/
theorem RegsInv.of_measuring (h : r = { Regs.reset with state := sSyncMeas, dur := r.dur })
    (hdur : 1 ≤ r.dur.toNat ∧ r.dur.toNat ≤ 2 ^ c.cw - 1) : RegsInv c r := by
  have hs : r.state = sSyncMeas := congrArg Regs.state h
  constructor
  case measuring => exact fun _ => ⟨h, hdur⟩
  case code => simp [hs]
  all_goals rw [hs]; exact fun h => absurd h (by decide)

/-- R36 in S_BIT_SAMPLE. -/
theorem RegsInv.of_sampling (hs : r.state = sBitSample) (hrec : Receiving r) {n : Nat} (hn : n ≤ c.maxDoublings - 1)
    (hw : r.weight.toNat = 2 ^ n) (hacc : r.acc.toNat < r.weight.toNat) (hdur : r.dur = 0#32) : RegsInv c r := by
  constructor
  case sampling => exact fun _ => ⟨⟨n, hn, hw⟩, hacc, hdur⟩
  case receiving => exact fun _ => hrec
  case code => simp [hs]
  all_goals rw [hs]; exact fun h => absurd h (by decide)

/-- R36 in S_BIT_WAIT. -/
theorem RegsInv.of_waiting (hs : r.state = sBitWait) (hrec : Receiving r) {n : Nat} (hn : n ≤ c.maxDoublings - 1)
    (hw : r.weight.toNat = 2 ^ n) (hacc : r.acc.toNat < 2 * r.weight.toNat) (hdur : r.dur = 0#32) : RegsInv c r := by
  constructor
  case waiting => exact fun _ => ⟨⟨n, hn, hw⟩, hacc, hdur⟩
  case receiving => exact fun _ => hrec
  case code => simp [hs]
  all_goals rw [hs]; exact fun h => absurd h (by decide)

/-- R36 in S_BIT_MEAS. -/
theorem RegsInv.of_pulse (hs : r.state = sBitMeas) (hrec : Receiving r) {n : Nat} (hn : 1 ≤ n ∧ n ≤ c.maxDoublings)
    (hw : r.weight.toNat = 2 ^ n) (hacc : r.acc.toNat < r.weight.toNat)
    (hdur : 1 ≤ r.dur.toNat ∧ r.dur.toNat ≤ 2 ^ c.cw - 1) : RegsInv c r := by
  constructor
  case pulse => exact fun _ => ⟨⟨n, hn.1, hn.2, hw⟩, hacc, hdur⟩
  case receiving => exact fun _ => hrec
  case code => simp [hs]
  all_goals rw [hs]; exact fun h => absurd h (by decide)

/-- R37 is all it says in S_CONVERT. -/
theorem RegsInv.of_converting
    (h : r = { Regs.reset with state := sConvert, widx := 1#1, raw0 := r.raw0, raw1 := r.raw1 }) : RegsInv c r := by
  have hs : r.state = sConvert := congrArg Regs.state h
  constructor
  case converting => exact fun _ => h
  case code => simp [hs]
  all_goals rw [hs]; exact fun h => absurd h (by decide)

/-- R38 is all it says in S_EMIT. -/
theorem RegsInv.of_emitting
    (h : r = { Regs.reset with state := sEmit, widx := 1#1, raw0 := r.raw0, raw1 := r.raw1,
                               meas0 := mm c.scale r.raw0, meas1 := fneg (mm c.scale r.raw1) }) : RegsInv c r := by
  have hs : r.state = sEmit := congrArg Regs.state h
  constructor
  case emitting => exact fun _ => h
  case code => simp [hs]
  all_goals rw [hs]; exact fun h => absurd h (by decide)

/-- R39 is all it says in S_DISCARD. -/
theorem RegsInv.of_discarding (hs : r.state = sDiscard) (herr : r.err = 0b001#3 ∨ r.err = 0b010#3 ∨ r.err = 0b100#3)
    (hdur : r.dur = 0#32) (hmeas0 : r.meas0 = 0#64) (hmeas1 : r.meas1 = 0#64) (hraw1 : r.raw1 = 0#24) : RegsInv c r := by
  constructor
  case discarding => exact fun _ => ⟨herr, hdur, hmeas0, hmeas1, hraw1⟩
  case code => simp [hs]
  all_goals rw [hs]; exact fun h => absurd h (by decide)

/-- The reset values obey the invariant under every configuration. -/
theorem regsInv_reset (c : Config) : RegsInv c Regs.reset := .of_fresh (.inl rfl) rfl

end

/-! #### What the configured widths hold -/

section
variable {s : State}

/-- ACC holds a value of MAX_DOUBLINGS bits (R17). -/
theorem toNat_setAcc (hl : s.cfg.legal = true) {v : Nat} (hv : v < 2 ^ s.cfg.maxDoublings) :
    (s.setAcc v).regs.acc.toNat = v := by
  have hwidth := Nat.pow_le_pow_right two_pos (Config.maxDoublings_of_legal hl).2
  rw [setAcc_acc, Nat.mod_eq_of_lt hv, BitVec.toNat_ofNat, Nat.mod_eq_of_lt (hv.trans_le hwidth)]

/-- WEIGHT holds a value of MAX_DOUBLINGS + 1 bits (R18). -/
theorem toNat_setWeight (hl : s.cfg.legal = true) {v : Nat} (hv : v < 2 ^ (s.cfg.maxDoublings + 1)) :
    (s.setWeight v).regs.weight.toNat = v := by
  have hwidth := Nat.pow_le_pow_right two_pos (Nat.succ_le_succ (Config.maxDoublings_of_legal hl).2)
  rw [setWeight_weight, Nat.mod_eq_of_lt hv, BitVec.toNat_ofNat, Nat.mod_eq_of_lt (hv.trans_le hwidth)]

/-- DUR holds a value of CW bits (R20). -/
theorem toNat_setDur (hl : s.cfg.legal = true) {v : Nat} (hv : v < 2 ^ s.cfg.cw) :
    (s.setDur v).regs.dur.toNat = v := by
  rw [setDur_dur, Nat.mod_eq_of_lt hv, BitVec.toNat_ofNat,
    Nat.mod_eq_of_lt (hv.trans_le (Config.cw_pow_of_legal hl).2)]

/-- The first tick of a pulse: DUR is in the range of a pulse being counted (R35, R36). -/
theorem dur_bounds_setDur_one (hl : s.cfg.legal = true) :
    1 ≤ (s.setDur 1).regs.dur.toNat ∧ (s.setDur 1).regs.dur.toNat ≤ 2 ^ s.cfg.cw - 1 := by
  have := Config.cw_pow_of_legal hl
  rw [toNat_setDur hl (by omega)]
  omega

/-- Counting keeps DUR in the range of a pulse being counted, by saturation (R20, R35, R36). -/
theorem dur_bounds_countTick (hl : s.cfg.legal = true) (h : 1 ≤ s.regs.dur.toNat ∧ s.regs.dur.toNat ≤ 2 ^ s.cfg.cw - 1) :
    1 ≤ s.countTick.regs.dur.toNat ∧ s.countTick.regs.dur.toNat ≤ 2 ^ s.cfg.cw - 1 := by
  unfold State.countTick
  split
  · rw [toNat_setDur hl (by omega)]
    omega
  · exact h

/-- The low 24 bits of ACC lose nothing of a word of 24 bits (41_word_receiver.md R97). -/
theorem toNat_lowWord {acc : BitVec 63} (h : acc.toNat < 2 ^ 24) : (lowWord acc).toNat = acc.toNat := by
  rw [lowWord, BitVec.extractLsb'_toNat, Nat.shiftRight_zero, Nat.mod_eq_of_lt h]

end

/-! #### The invariant is kept: counting, the start of a word, errors, and then every operation -/

section
variable {s : State}

/-- What R36 says of all three receiving states does not speak of STATE, ACC, WEIGHT and DUR. -/
theorem Receiving.working {r : Regs} (h : Receiving r) (state : BitVec 4) (acc : BitVec 63) (weight : BitVec 64)
    (dur : BitVec 32) : Receiving { r with state := state, acc := acc, weight := weight, dur := dur } :=
  ⟨h.err, h.meas0, h.meas1, h.raw1, h.raw0⟩

/-- A candidate start pulse leaves what the receiving states ask for (R35, R36). -/
theorem Receiving.of_measuring {r : Regs} (h : r = { Regs.reset with state := sSyncMeas, dur := r.dur }) : Receiving r :=
  ⟨congrArg Regs.err h, congrArg Regs.meas0 h, congrArg Regs.meas1 h, congrArg Regs.raw1 h, fun _ => congrArg Regs.raw0 h⟩

/-- A word begins in S_BIT_SAMPLE with the registers R36 asks for (41_word_receiver.md R89). -/
theorem regsInv_beginWord {c : Config} (h : Receiving s.regs) : RegsInv c (s.beginWord.setState sBitSample).regs := by
  have hweight : s.beginWord.regs.weight.toNat = 2 ^ 0 := by simp [beginWord_regs]
  exact .of_sampling rfl (h.working ..) (Nat.zero_le _) hweight (by simp [beginWord_regs]) (by simp [beginWord_regs])

/-- Taking an error where none is held, DUR is 0 and nothing has been measured gives what R39 asks for. -/
theorem regsInv_raise {c : Config} (e : ProtocolError) (h : Receiving s.regs) (hdur : s.regs.dur = 0#32) :
    RegsInv c (s.raise e).regs := by
  have herr : (s.raise e).regs.err = errCode e := by simp [h.err]
  refine .of_discarding rfl ?_ hdur h.meas0 h.meas1 h.raw1
  rw [herr]
  cases e
  · exact .inl rfl
  · exact .inr (.inl rfl)
  · exact .inr (.inr rfl)

/-- A sampled bit keeps ACC below twice the bit-weight (R90). -/
theorem acc_lt_of_sample (hl : s.cfg.legal = true) {n : Nat} (hn : n ≤ s.cfg.maxDoublings - 1)
    (hweight : s.regs.weight.toNat = 2 ^ n) (hacc : s.regs.acc.toNat < s.regs.weight.toNat) :
    (s.setAcc (s.regs.acc.toNat + s.regs.weight.toNat)).regs.acc.toNat < 2 * s.regs.weight.toNat := by
  have hmax := Config.maxDoublings_of_legal hl
  have hfit : 2 * 2 ^ n ≤ 2 ^ s.cfg.maxDoublings := by
    rw [← pow_succ']
    exact Nat.pow_le_pow_right two_pos (by omega)
  rw [toNat_setAcc hl (by omega)]
  omega

/-- The bit-weight below the safety bound doubles without loss (R93). -/
theorem weight_of_rise (hl : s.cfg.legal = true) {n : Nat} (hn : n ≤ s.cfg.maxDoublings - 1)
    (hweight : s.regs.weight.toNat = 2 ^ n) :
    (s.setWeight (2 * s.regs.weight.toNat)).regs.weight.toNat = 2 ^ (n + 1) := by
  have hmax := Config.maxDoublings_of_legal hl
  have hfit : 2 ^ (n + 1) < 2 ^ (s.cfg.maxDoublings + 1) := Nat.pow_lt_pow_right one_lt_two (by omega)
  rw [hweight, ← pow_succ', toNat_setWeight hl hfit]

/-- The operation of a tick keeps the registers' invariant (R34 to R40). -/
theorem TickSelects.regsInv {i : Instr} {t : State} (hsel : TickSelects s i) (hl : s.cfg.legal = true)
    (hinv : RegsInv s.cfg s.regs) (h : exec i s = .next t) : RegsInv s.cfg t.regs := by
  cases hsel <;> cases h
  case syncArmHold hs _ =>
    exact .of_fresh (.inl rfl) (congrArg (fun r : Regs => { r with state := sSyncArm }) (hinv.fresh (.inl hs)))
  case syncArmGo hs _ =>
    exact .of_fresh (.inr rfl) (congrArg (fun r : Regs => { r with state := sSyncWait }) (hinv.fresh (.inl hs)))
  case syncWaitHold hs _ =>
    exact .of_fresh (.inr rfl) (congrArg (fun r : Regs => { r with state := sSyncWait }) (hinv.fresh (.inr hs)))
  case syncWaitRise hs _ =>
    have hfresh := hinv.fresh (.inr hs)
    exact .of_measuring (congrArg (fun r : Regs => { r with state := sSyncMeas, dur := (s.setDur 1).regs.dur }) hfresh)
      (dur_bounds_setDur_one hl)
  case syncMeasCount hs _ =>
    obtain ⟨hmeas, hdur⟩ := hinv.measuring hs
    have hcount := dur_bounds_countTick hl hdur
    obtain ⟨v, hv⟩ := countTick_writes_dur s
    rw [hv] at hcount ⊢
    exact .of_measuring (congrArg (fun r : Regs => { r with state := sSyncMeas, dur := v }) hmeas) hcount
  case syncMeasAccept hs _ _ =>
    obtain ⟨hmeas, -⟩ := hinv.measuring hs
    have hrec := Receiving.of_measuring hmeas
    exact regsInv_beginWord (s := s.setWidx 0#1)
      ⟨hrec.err, hrec.meas0, hrec.meas1, hrec.raw1, fun _ => congrArg Regs.raw0 hmeas⟩
  case syncMeasShort hs _ _ =>
    obtain ⟨hmeas, -⟩ := hinv.measuring hs
    exact regsInv_raise _ ((Receiving.of_measuring hmeas).working ..) (by simp)
  case bitSampleOk hs _ =>
    obtain ⟨⟨n, hn, hweight⟩, hacc, hdur⟩ := hinv.sampling hs
    have hrec := hinv.receiving (.inl hs)
    cases s.pins.dataIn
    · exact .of_waiting rfl (hrec.working ..) hn hweight
        (hacc.trans_le (Nat.le_mul_of_pos_left _ two_pos)) hdur
    · exact .of_waiting rfl (hrec.working ..) hn hweight
        (acc_lt_of_sample hl hn hweight hacc) hdur
  case bitSampleGlitch hs _ =>
    obtain ⟨-, -, hdur⟩ := hinv.sampling hs
    exact regsInv_raise _ (hinv.receiving (.inl hs)) hdur
  case bitWaitHold hs _ =>
    obtain ⟨⟨n, hn, hweight⟩, hacc, hdur⟩ := hinv.waiting hs
    have hrec := hinv.receiving (.inr (.inl hs))
    exact .of_waiting rfl (hrec.working ..) hn hweight hacc hdur
  case bitWaitRise hs _ =>
    obtain ⟨⟨n, hn, hweight⟩, hacc, hdur⟩ := hinv.waiting hs
    have hrec := hinv.receiving (.inr (.inl hs))
    have hdouble := weight_of_rise hl hn hweight
    have hmax := Config.maxDoublings_of_legal hl
    refine .of_pulse (n := n + 1) rfl (hrec.working ..) (by omega) hdouble ?_
      (dur_bounds_setDur_one (s := s.setWeight _) hl)
    calc s.regs.acc.toNat < 2 * s.regs.weight.toNat := hacc
      _ = (s.setWeight (2 * s.regs.weight.toNat)).regs.weight.toNat := by rw [hdouble, hweight, pow_succ']
  case bitMeasCount hs _ =>
    obtain ⟨⟨n, hmin, hmax, hweight⟩, hacc, hdur⟩ := hinv.pulse hs
    have hrec := hinv.receiving (.inr (.inr hs))
    have hcount := dur_bounds_countTick hl hdur
    obtain ⟨v, hv⟩ := countTick_writes_dur s
    rw [hv] at hcount ⊢
    exact .of_pulse rfl (hrec.working ..) ⟨hmin, hmax⟩ hweight hacc hcount
  case bitMeasNext hs _ _ hbound =>
    obtain ⟨⟨n, hmin, hmax, hweight⟩, hacc, -⟩ := hinv.pulse hs
    have hrec := hinv.receiving (.inr (.inr hs))
    have hn : n ≠ s.cfg.maxDoublings := by rintro rfl; exact hbound hweight
    exact .of_sampling rfl (hrec.working ..) (by omega) hweight hacc (by simp)
  case bitMeasBound hs _ _ _ => exact regsInv_raise _ ((hinv.receiving (.inr (.inr hs))).working ..) (by simp)
  case bitMeasWord0 hs _ _ _ _ =>
    have hrec := hinv.receiving (.inr (.inr hs))
    exact regsInv_beginWord (s := (s.setRaw0 (lowWord s.regs.acc)).setWidx 1#1)
      ⟨hrec.err, hrec.meas0, hrec.meas1, hrec.raw1, fun h => absurd h (by decide : (1#1 : BitVec 1) ≠ 0#1)⟩
  case bitMeasWord1 hs _ _ _ hw =>
    have hrec := hinv.receiving (.inr (.inr hs))
    refine .of_converting (Regs.ext rfl hw ?_ ?_ ?_ rfl rfl hrec.err hrec.meas0 hrec.meas1)
    all_goals simp [beginWord_regs, Regs.reset]
  case bitMeasBadlen hs _ _ _ => exact regsInv_raise _ ((hinv.receiving (.inr (.inr hs))).working ..) (by simp)
  case convert hs =>
    exact .of_emitting (congrArg (fun r : Regs => { r with
      state := sEmit, meas0 := mm s.cfg.scale s.regs.raw0, meas1 := fneg (mm s.cfg.scale s.regs.raw1) })
      (hinv.converting hs))
  case emit | discard => exact regsInv_reset _

end

/-- The operation of an edge keeps the registers' invariant. -/
theorem Selects.regsInv {s t : State} {i : Instr} (hsel : Selects s i) (hl : s.cfg.legal = true)
    (hinv : RegsInv s.cfg s.regs) (h : exec i s = .next t) : RegsInv s.cfg t.regs := by
  cases hsel with
  | reset => cases h; exact regsInv_reset _
  | hold => cases h; exact hinv
  | tick _ _ htick => exact htick.regsInv hl hinv h

/-! #### Events -/

/-- The events of a tick's operation, by the control state (20_memory.md R47). -/
theorem TickSelects.eventOf_eq {s : State} {i : Instr} (h : TickSelects s i) :
    eventOf i s.regs =
      if s.regs.state = sEmit then some (.emit s.regs.raw0 s.regs.raw1 s.regs.meas0 s.regs.meas1)
      else if s.regs.state = sDiscard then some (.discard s.regs.err)
      else none := by
  have silent : ∀ v, s.regs.state = v → v ≠ sEmit → v ≠ sDiscard → none =
      if s.regs.state = sEmit then some (Event.emit s.regs.raw0 s.regs.raw1 s.regs.meas0 s.regs.meas1)
      else if s.regs.state = sDiscard then some (.discard s.regs.err)
      else none := by
    rintro v rfl hemit hdiscard
    rw [if_neg hemit, if_neg hdiscard]
  cases h
  case emit hs => rw [if_pos hs]; rfl
  case discard hs => rw [if_neg (hs ▸ by decide : s.regs.state ≠ sEmit), if_pos hs]; rfl
  all_goals exact silent _ ‹_› (by decide) (by decide)

/-- A step adds to the log the event of its control state, and only at a tick (20_memory.md R47). -/
theorem step_events {s t : State} (h : step s = .next t) :
    t.events =
      if s.pins.rst = false ∧ s.pins.tick = true ∧ s.regs.state = sEmit then
        s.events ++ [⟨s.tickNo, .emit s.regs.raw0 s.regs.raw1 s.regs.meas0 s.regs.meas1⟩]
      else if s.pins.rst = false ∧ s.pins.tick = true ∧ s.regs.state = sDiscard then
        s.events ++ [⟨s.tickNo, .discard s.regs.err⟩]
      else s.events := by
  obtain ⟨-, i, u, hsel, hexec, rfl⟩ := step_selects h
  rw [endEdge_events, exec_record hexec]
  cases hsel with
  | reset hrst => simp [eventOf, hrst]
  | hold hrst htick => simp [eventOf, htick]
  | tick hrst htick hsel =>
    simp only [hsel.eventOf_eq, hrst, htick, true_and]
    split
    · rfl
    · split
      · rfl
      · simp

/-- A step keeps the log, or it is a tick and adds one event of that tick, in S_EMIT or in S_DISCARD. -/
theorem step_events_cases {s t : State} (h : step s = .next t) :
    t.events = s.events ∨ t.tickNo = s.tickNo + 1 ∧ ∃ e, t.events = s.events ++ [⟨s.tickNo, e⟩] ∧
      (s.regs.state = sEmit ∧ e = .emit s.regs.raw0 s.regs.raw1 s.regs.meas0 s.regs.meas1 ∨
        s.regs.state = sDiscard ∧ e = .discard s.regs.err) := by
  have htickNo : t.tickNo = if !s.pins.rst && s.pins.tick then s.tickNo + 1 else s.tickNo := by
    obtain ⟨-, i, u, -, hexec, rfl⟩ := step_selects h
    rw [endEdge_tickNo, exec_record hexec]
  have hevents := step_events h
  split at hevents
  case isTrue hemit =>
    obtain ⟨hrst, htick, hs⟩ := hemit
    exact .inr ⟨by simp [htickNo, hrst, htick], _, hevents, .inl ⟨hs, rfl⟩⟩
  case isFalse =>
    split at hevents
    case isTrue hdiscard =>
      obtain ⟨hrst, htick, hs⟩ := hdiscard
      exact .inr ⟨by simp [htickNo, hrst, htick], _, hevents, .inr ⟨hs, rfl⟩⟩
    case isFalse => exact .inl hevents

/-- Time does not run back. -/
theorem step_tickNo_le {s t : State} (h : step s = .next t) : s.tickNo ≤ t.tickNo := by
  obtain ⟨-, i, u, -, hexec, rfl⟩ := step_selects h
  rw [endEdge_tickNo, exec_record hexec]
  split
  · exact Nat.le_succ _
  · exact le_rfl

/-- Registers that obey the invariant deliver well-formed events only (R38, R39). -/
theorem RegsInv.eventOk {c : Config} {r : Regs} (h : RegsInv c r) :
    (r.state = sEmit → EventOk c (.emit r.raw0 r.raw1 r.meas0 r.meas1)) ∧ (r.state = sDiscard → EventOk c (.discard r.err)) :=
  ⟨fun hs => ⟨congrArg Regs.meas0 (h.emitting hs), congrArg Regs.meas1 (h.emitting hs)⟩, fun hs => (h.discarding hs).1⟩

/-- Adding an event of the present tick keeps the log in order, and time passes. -/
theorem Inv.step {s t : State} (hinv : Inv s) (h : step s = .next t) : Inv t := by
  have hcfg := step_cfg h
  have hregs : RegsInv t.cfg t.regs := by
    obtain ⟨-, i, u, hsel, hexec, rfl⟩ := step_selects h
    rw [hcfg, endEdge_regs]
    exact hsel.regsInv hinv.legal hinv.regs hexec
  have hlegal : t.cfg.legal = true := hcfg ▸ hinv.legal
  rcases step_events_cases h with hkeep | ⟨htick, e, hadd, he⟩
  · have hle := step_tickNo_le h
    refine ⟨hlegal, hregs, ?_, ?_, ?_⟩ <;> rw [hkeep]
    · rw [hcfg]; exact hinv.events
    · exact fun x hx => (hinv.past x hx).trans_le hle
    · exact hinv.order
  · have hok : EventOk s.cfg e := by
      rcases he with ⟨hs, rfl⟩ | ⟨hs, rfl⟩
      · exact hinv.regs.eventOk.1 hs
      · exact hinv.regs.eventOk.2 hs
    refine ⟨hlegal, hregs, ?_, ?_, ?_⟩ <;> rw [hadd]
    · rw [hcfg]
      simpa [or_imp, forall_and] using ⟨hinv.events, hok⟩
    · intro x hx
      rcases List.mem_append.1 hx with hold | hnew
      · exact (hinv.past x hold).trans (by omega)
      · rw [List.mem_singleton.1 hnew, htick]
        exact Nat.lt_succ_self _
    · refine List.pairwise_append.2 ⟨hinv.order, List.pairwise_singleton .., ?_⟩
      simpa using hinv.past

/-- Settles O28: the operation an edge selects keeps the registers' invariant, and a new event is the present tick's. -/
theorem invariantIsKeptByEveryStep : Obligations.InvariantIsKeptByEveryStep :=
  fun _ _ hinv h => hinv.step h

/-- A machine just out of reset obeys the invariant. -/
theorem AtReset.inv {s : State} (h : AtReset s) : Inv s where
  legal := h.legal
  regs := h.regs ▸ regsInv_reset s.cfg
  events := by simp [h.events]
  past := by simp [h.events]
  order := by simp [h.events]

/-- Settles O29: the reset values are those of S_SYNC_ARM, and nothing has been delivered. -/
theorem invariantHoldsAtReset : Obligations.InvariantHoldsAtReset :=
  ⟨fun _ h => h.inv, by decide, rfl, rfl⟩

/-- Every state a run from reset reaches obeys the invariant. -/
theorem Reachable.inv {s : State} (h : Reachable s) : Inv s := by
  induction h with
  | start s h0 => exact h0.inv
  | step s t _ hstep ih => exact ih.step hstep

/-! #### The access table (R27) -/

/-! A register's value is the register. -/

section
variable {r q : Regs}

@[simp] theorem value_STATE : r.value .STATE = q.value .STATE ↔ r.state = q.state := BitVec.toNat_inj
@[simp] theorem value_WIDX : r.value .WIDX = q.value .WIDX ↔ r.widx = q.widx := BitVec.toNat_inj
@[simp] theorem value_ACC : r.value .ACC = q.value .ACC ↔ r.acc = q.acc := BitVec.toNat_inj
@[simp] theorem value_WEIGHT : r.value .WEIGHT = q.value .WEIGHT ↔ r.weight = q.weight := BitVec.toNat_inj
@[simp] theorem value_DUR : r.value .DUR = q.value .DUR ↔ r.dur = q.dur := BitVec.toNat_inj
@[simp] theorem value_RAW0 : r.value .RAW0 = q.value .RAW0 ↔ r.raw0 = q.raw0 := BitVec.toNat_inj
@[simp] theorem value_RAW1 : r.value .RAW1 = q.value .RAW1 ↔ r.raw1 = q.raw1 := BitVec.toNat_inj
@[simp] theorem value_ERR : r.value .ERR = q.value .ERR ↔ r.err = q.err := BitVec.toNat_inj
@[simp] theorem value_MEAS0 : r.value .MEAS0 = q.value .MEAS0 ↔ r.meas0 = q.meas0 := BitVec.toNat_inj
@[simp] theorem value_MEAS1 : r.value .MEAS1 = q.value .MEAS1 ↔ r.meas1 = q.meas1 := BitVec.toNat_inj

end

/-! What each write leaves unchanged. -/

section
variable {s : State} {n : RegName}

theorem value_setState (v : BitVec 4) (h : n ≠ .STATE) : (s.setState v).regs.value n = s.regs.value n := by
  cases n <;> trivial

theorem value_setWidx (v : BitVec 1) (h : n ≠ .WIDX) : (s.setWidx v).regs.value n = s.regs.value n := by
  cases n <;> trivial

theorem value_setAcc (v : Nat) (h : n ≠ .ACC) : (s.setAcc v).regs.value n = s.regs.value n := by
  cases n <;> trivial

theorem value_setWeight (v : Nat) (h : n ≠ .WEIGHT) : (s.setWeight v).regs.value n = s.regs.value n := by
  cases n <;> trivial

theorem value_setDur (v : Nat) (h : n ≠ .DUR) : (s.setDur v).regs.value n = s.regs.value n := by
  cases n <;> trivial

theorem value_setRaw0 (v : Raw) (h : n ≠ .RAW0) : (s.setRaw0 v).regs.value n = s.regs.value n := by
  cases n <;> trivial

theorem value_setRaw1 (v : Raw) (h : n ≠ .RAW1) : (s.setRaw1 v).regs.value n = s.regs.value n := by
  cases n <;> trivial

theorem value_setErr (v : BitVec 3) (h : n ≠ .ERR) : (s.setErr v).regs.value n = s.regs.value n := by
  cases n <;> trivial

theorem value_setMeas0 (v : F64) (h : n ≠ .MEAS0) : (s.setMeas0 v).regs.value n = s.regs.value n := by
  cases n <;> trivial

theorem value_setMeas1 (v : F64) (h : n ≠ .MEAS1) : (s.setMeas1 v).regs.value n = s.regs.value n := by
  cases n <;> trivial

theorem value_raise (e : ProtocolError) (herr : n ≠ .ERR) (hstate : n ≠ .STATE) :
    (s.raise e).regs.value n = s.regs.value n :=
  (value_setState _ hstate).trans (value_setErr _ herr)

theorem value_beginWord (hacc : n ≠ .ACC) (hweight : n ≠ .WEIGHT) (hdur : n ≠ .DUR) :
    s.beginWord.regs.value n = s.regs.value n :=
  (value_setDur _ hdur).trans ((value_setWeight _ hweight).trans (value_setAcc _ hacc))

theorem value_countTick (h : n ≠ .DUR) : s.countTick.regs.value n = s.regs.value n := by
  unfold State.countTick
  split
  · exact value_setDur _ h
  · rfl

end

/-- Every operation leaves the registers its row does not mark `w`. -/
theorem exec_keeps {i : Instr} {s t : State} (h : exec i s = .next t) {n : RegName} (hn : n ∉ writesOf i) :
    t.regs.value n = s.regs.value n := by
  cases i <;> cases h
  case hold => rfl
  case reset | emit | discard => exact absurd (by cases n <;> decide) hn
  case bitSampleOk d =>
    obtain ⟨hstate, hacc⟩ : n ≠ .STATE ∧ n ≠ .ACC := by simpa [writesOf] using hn
    rw [value_setState _ hstate]
    split
    · exact value_setAcc _ hacc
    · rfl
  all_goals
    simp only [writesOf, List.mem_cons, List.not_mem_nil, or_false, not_or] at hn
    simp only [value_setState, value_setWidx, value_setWeight, value_setDur, value_setRaw0, value_setRaw1,
      value_setMeas0, value_setMeas1, value_raise, value_beginWord, value_countTick, ne_eq, hn, not_false_eq_true]

/-- Counting reads the configuration and DUR. -/
theorem countTick_dur_congr {s u : State} (hcfg : s.cfg = u.cfg) (hdur : s.regs.dur = u.regs.dur) :
    s.countTick.regs.dur = u.countTick.regs.dur := by
  unfold State.countTick
  rw [hcfg, hdur]
  split
  · simp [hcfg]
  · exact hdur

/-- What an operation writes depends only on the registers its row marks `r`. -/
theorem exec_congr {i : Instr} {s u t v : State} (hcfg : s.cfg = u.cfg)
    (hreads : ∀ r ∈ readsOf i, s.regs.value r = u.regs.value r) (ht : exec i s = .next t) (hv : exec i u = .next v) :
    ∀ r ∈ writesOf i, t.regs.value r = v.regs.value r := by
  cases i <;> cases ht <;> cases hv <;> simp [readsOf, writesOf] at hreads ⊢
  case syncMeasCount | bitMeasCount => exact countTick_dur_congr hcfg hreads.2
  case bitSampleOk d => cases d <;> simp [hcfg, hreads]
  all_goals simp [hcfg, hreads, beginWord_regs]

/-- The event of an operation depends only on the registers its row marks `r`. -/
theorem eventOf_congr {i : Instr} {r q : Regs} (hreads : ∀ n ∈ readsOf i, r.value n = q.value n) :
    eventOf i r = eventOf i q := by
  cases i
  case emit | discard =>
    simp [readsOf] at hreads
    simp [eventOf, hreads]
  all_goals rfl

/-- Settles O18: the frame is the frame of the writes an operation is made of, and each write is a function of what is read. -/
theorem operationsObeyTheAccessTable : Obligations.OperationsObeyTheAccessTable := by
  refine ⟨fun i s => ?_, fun i s u t v hcfg hreads ht hv => ⟨exec_congr hcfg hreads ht hv, eventOf_congr hreads⟩⟩
  obtain ⟨t, h⟩ := exec_next i s
  refine ⟨t, h, fun n hn => exec_keeps h hn, ?_⟩
  rw [exec_record h]
  exact ⟨rfl, rfl, rfl, rfl, rfl⟩

/-! #### Widths -/

section
variable {c : Config} {s : State}

/-- Every write of a register with a configured width is cut to that width (log 5). -/
theorem RegsFit.setAcc (h : RegsFit s.cfg s.regs) (v : Nat) : RegsFit s.cfg (s.setAcc v).regs where
  acc := by
    rw [setAcc_acc, BitVec.toNat_ofNat]
    exact (Nat.mod_le _ _).trans_lt (Nat.mod_lt _ (Nat.two_pow_pos _))
  weight := h.weight
  dur := h.dur

theorem RegsFit.setWeight (h : RegsFit s.cfg s.regs) (v : Nat) : RegsFit s.cfg (s.setWeight v).regs where
  acc := h.acc
  weight := by
    rw [setWeight_weight, BitVec.toNat_ofNat]
    exact (Nat.mod_le _ _).trans_lt (Nat.mod_lt _ (Nat.two_pow_pos _))
  dur := h.dur

theorem RegsFit.setDur (h : RegsFit s.cfg s.regs) (v : Nat) : RegsFit s.cfg (s.setDur v).regs where
  acc := h.acc
  weight := h.weight
  dur := by
    rw [setDur_dur, BitVec.toNat_ofNat]
    exact (Nat.mod_le _ _).trans_lt (Nat.mod_lt _ (Nat.two_pow_pos _))

theorem RegsFit.beginWord (h : RegsFit s.cfg s.regs) : RegsFit s.cfg s.beginWord.regs :=
  RegsFit.setDur (s := (s.setAcc 0).setWeight 1) (RegsFit.setWeight (s := s.setAcc 0) (h.setAcc 0) 1) 0

theorem RegsFit.countTick (h : RegsFit s.cfg s.regs) : RegsFit s.cfg s.countTick.regs := by
  unfold State.countTick
  split
  · exact h.setDur _
  · exact h

/-- The widths are about ACC, WEIGHT and DUR only. -/
theorem RegsFit.frame {r q : Regs} (h : RegsFit c r) (hacc : q.acc = r.acc) (hweight : q.weight = r.weight)
    (hdur : q.dur = r.dur) : RegsFit c q :=
  ⟨hacc ▸ h.acc, hweight ▸ h.weight, hdur ▸ h.dur⟩

theorem regsFit_reset (c : Config) : RegsFit c Regs.reset :=
  ⟨Nat.two_pow_pos _, Nat.one_lt_two_pow (Nat.succ_ne_zero _), Nat.two_pow_pos _⟩

/-- Every operation is made of writes that keep the widths. -/
theorem exec_regsFit {i : Instr} {t : State} (hfit : RegsFit s.cfg s.regs) (h : exec i s = .next t) :
    RegsFit s.cfg t.regs := by
  cases i <;> cases h
  case reset | emit | discard => exact regsFit_reset _
  case hold => exact hfit
  case syncWaitRise => exact (hfit.setDur 1).frame rfl rfl rfl
  case syncMeasCount | bitMeasCount => exact hfit.countTick.frame rfl rfl rfl
  case syncMeasAccept | bitMeasWord0 | bitMeasWord1 => exact hfit.beginWord.frame rfl rfl rfl
  case syncMeasShort | bitMeasNext | bitMeasBound | bitMeasBadlen => exact (hfit.setDur 0).frame rfl rfl rfl
  case bitSampleOk d =>
    cases d
    · exact hfit.frame rfl rfl rfl
    · exact (hfit.setAcc _).frame rfl rfl rfl
  case bitWaitRise =>
    exact (RegsFit.setDur (s := s.setWeight _) (hfit.setWeight (2 * s.regs.weight.toNat)) 1).frame rfl rfl rfl
  all_goals exact hfit.frame rfl rfl rfl

end

/-- Settles O31: every operation cuts what it writes to the configured width, and none writes the configuration. -/
theorem registersStayInsideTheirWidths : Obligations.RegistersStayInsideTheirWidths := by
  intro s t hfit h
  obtain ⟨-, i, u, -, hexec, rfl⟩ := step_selects h
  rw [endEdge_cfg, endEdge_regs, exec_cfg hexec]
  exact ⟨exec_regsFit hfit hexec, rfl⟩

/-! #### Completed words (R37) -/

section
variable {s t : State} {i : Instr}

/-- At the end of a word of 24 doublings the low 24 bits of ACC are all of it. -/
theorem toNat_lowWord_of_len (hinv : Inv s) (hs : s.regs.state = sBitMeas)
    (hlen : s.regs.weight.toNat = 2 ^ s.cfg.wordBits) :
    s.regs.weight.toNat = 2 ^ 24 ∧ (lowWord s.regs.acc).toNat = s.regs.acc.toNat := by
  obtain ⟨-, hacc, -⟩ := hinv.regs.pulse hs
  rw [Config.wordBits_of_legal hinv.legal] at hlen
  exact ⟨hlen, toNat_lowWord (hlen ▸ hacc)⟩

/-- WIDX turns to 1 only when a marker ends word 0 after exactly 24 doublings, and RAW0 then holds ACC. -/
theorem Selects.word0_completed (hsel : Selects s i) (hinv : Inv s) (h : exec i s = .next t) (hs : s.regs.widx = 0#1)
    (ht : t.regs.widx = 1#1) :
    s.regs.state = sBitMeas ∧ s.cfg.threshold ≤ s.regs.dur.toNat ∧ s.regs.weight.toNat = 2 ^ 24 ∧
      t.regs.raw0.toNat = s.regs.acc.toNat := by
  have hchange : t.regs.value .WIDX ≠ s.regs.value .WIDX := by simp [hs, ht]
  have hwrites : .WIDX ∈ writesOf i := by_contra fun hn => hchange (exec_keeps h hn)
  cases hsel with
  | reset => cases h; cases ht
  | hold => cases h; simp [hs] at ht
  | tick _ _ hsel =>
    cases hsel <;> cases h
    case tick.bitMeasWord0.refl hstate _ hmark hlen _ =>
      obtain ⟨hweight, hraw⟩ := toNat_lowWord_of_len hinv hstate hlen
      exact ⟨hstate, hmark, hweight, hraw⟩
    case tick.syncMeasAccept.refl | tick.emit.refl | tick.discard.refl => cases ht
    all_goals simp [writesOf] at hwrites

/-- RAW0 is kept as long as WIDX is 1. -/
theorem Selects.raw0_kept (hsel : Selects s i) (h : exec i s = .next t) (hs : s.regs.widx = 1#1)
    (ht : t.regs.widx = 1#1) : t.regs.raw0 = s.regs.raw0 := by
  by_contra hchange
  have hwrites : .RAW0 ∈ writesOf i := by_contra fun hn => hchange (value_RAW0.1 (exec_keeps h hn))
  cases hsel with
  | reset => cases h; cases ht
  | hold => cases h; exact hchange rfl
  | tick _ _ hsel =>
    cases hsel <;> cases h
    case tick.bitMeasWord0.refl hw => simp [hs] at hw
    case tick.emit.refl | tick.discard.refl => cases ht
    all_goals simp [writesOf] at hwrites

/-- S_CONVERT is entered only when a marker ends word 1 after exactly 24 doublings, and RAW1 then holds ACC. -/
theorem Selects.word1_completed (hsel : Selects s i) (hinv : Inv s) (h : exec i s = .next t)
    (hs : s.regs.state ≠ sConvert) (ht : t.regs.state = sConvert) :
    s.regs.state = sBitMeas ∧ s.regs.widx = 1#1 ∧ s.cfg.threshold ≤ s.regs.dur.toNat ∧
      s.regs.weight.toNat = 2 ^ 24 ∧ t.regs.raw1.toNat = s.regs.acc.toNat := by
  cases hsel with
  | reset => cases h; cases ht
  | hold => cases h; exact absurd ht hs
  | tick _ _ hsel =>
    cases hsel <;> cases h
    case tick.bitMeasWord1.refl hstate _ hmark hlen hw =>
      obtain ⟨hweight, hraw⟩ := toNat_lowWord_of_len hinv hstate hlen
      exact ⟨hstate, hw, hmark, hweight, hraw⟩
    all_goals cases ht

/-- RAW1 is kept through S_CONVERT and S_EMIT. -/
theorem Selects.raw1_kept (hsel : Selects s i) (h : exec i s = .next t)
    (hs : s.regs.state = sConvert ∨ s.regs.state = sEmit) (ht : t.regs.state = sConvert ∨ t.regs.state = sEmit) :
    t.regs.raw1 = s.regs.raw1 := by
  by_contra hchange
  have hwrites : .RAW1 ∈ writesOf i := by_contra fun hn => hchange (value_RAW1.1 (exec_keeps h hn))
  cases hsel with
  | reset => cases h; rcases ht with ht | ht <;> cases ht
  | hold => cases h; exact hchange rfl
  | tick _ _ hsel =>
    cases hsel <;> cases h
    case tick.bitMeasWord1.refl hstate _ _ _ _ => rw [hstate] at hs; exact absurd hs (by decide)
    case tick.emit.refl | tick.discard.refl => rcases ht with ht | ht <;> cases ht
    all_goals simp [writesOf] at hwrites

end

/-- Settles O30: the clauses are the fields of the invariant of the reached states; the last one is about one more step. -/
theorem reachableRegistersObeyTheInvariants : Obligations.ReachableRegistersObeyTheInvariants := by
  intro s hreach
  have hinv := hreach.inv
  obtain ⟨hcode, hfresh, hmeas, hrec, hsample, hwait, hpulse, hconvert, hemit, hdiscard⟩ := hinv.regs
  refine ⟨hcode, hfresh, hmeas, fun hs => ?_, hsample, hwait, hpulse, hconvert, hemit, fun hs => ?_, fun t h => ?_⟩
  · obtain ⟨herr, hmeas0, hmeas1, hraw1, hraw0⟩ := hrec hs
    exact ⟨herr, hmeas0, hmeas1, hraw1, hraw0⟩
  · obtain ⟨herr, hdur, hmeas0, hmeas1, hraw1⟩ := hdiscard hs
    exact ⟨herr, hdur, hmeas0, hmeas1, hraw1, rfl⟩
  · obtain ⟨-, i, u, hsel, hexec, rfl⟩ := step_selects h
    rw [endEdge_regs]
    exact ⟨hsel.word0_completed hinv hexec, hsel.raw0_kept hexec, hsel.word1_completed hinv hexec, hsel.raw1_kept hexec⟩

/-! #### Reset values, sampling, ports and the doc-level state -/

/-- Settles O1: RESET, EMIT and DISCARD end in the frame clear, which writes the values of R33. -/
theorem resetValuesOfEveryRegister : Obligations.ResetValuesOfEveryRegister := by
  refine ⟨rfl, rfl, rfl, fun s => rfl, fun s i hi => ?_⟩
  obtain rfl | rfl : i = .emit ∨ i = .discard := by simpa using hi
  · exact ⟨_, rfl, rfl, rfl⟩
  · exact ⟨_, rfl, rfl, rfl⟩

/-- Settles O11: the two data levels, each a write of STATE after the write of ACC it asks for. -/
theorem sampleAddsTheWeightWhenDataIsHigh : Obligations.SampleAddsTheWeightWhenDataIsHigh := by
  refine ⟨fun s => rfl, fun s => rfl, ?_⟩
  rintro s d ⟨hlegal, hpins, hstate⟩
  have hdec : decode s.sel s.guards = .ok (.bitSampleOk d) := by
    rw [decode_of_tick hpins, hstate]
    rfl
  refine ⟨hdec, step_of_tick hlegal hpins hdec ?_⟩
  cases d
  · rfl
  · rfl

/-- The ports show the registers of the event that the control state gates (20_memory.md R49). -/
theorem ports_gated (r : Regs) :
    (r.ports.emitValid = true ↔ r.state = sEmit) ∧ (r.ports.discardValid = true ↔ r.state = sDiscard) ∧
    (r.state = sEmit →
      r.ports.raw0 = r.raw0 ∧ r.ports.raw1 = r.raw1 ∧ r.ports.meas0 = r.meas0 ∧ r.ports.meas1 = r.meas1) ∧
    (r.state ≠ sEmit → r.ports.raw0 = 0#24 ∧ r.ports.raw1 = 0#24 ∧ r.ports.meas0 = 0#64 ∧ r.ports.meas1 = 0#64) ∧
    (r.state = sDiscard → r.ports.err = r.err) ∧ (r.state ≠ sDiscard → r.ports.err = 0#3) := by
  refine ⟨decide_eq_true_iff, decide_eq_true_iff, fun h => ?_, fun h => ?_, fun h => if_pos h, fun h => if_neg h⟩
  · exact ⟨if_pos h, if_pos h, if_pos h, if_pos h⟩
  · exact ⟨if_neg h, if_neg h, if_neg h, if_neg h⟩

/-- Between ticks the registers hold (R113). -/
theorem step_regs_of_hold {s t : State} (h : step s = .next t) (hrst : s.pins.rst = false) (htick : s.pins.tick = false) :
    t.regs = s.regs := by
  obtain ⟨-, i, u, hdec, hexec, rfl⟩ := step_eq_next.1 h
  cases (decode_of_hold hrst htick).symm.trans hdec
  cases hexec
  rfl

/-- Settles O37: the strobes and the payload say of the ports what the event of a step says of the registers. -/
theorem outputPortsAreGated : Obligations.OutputPortsAreGated := by
  refine ⟨ports_gated, fun s t h => ⟨fun hrst htick => by rw [step_regs_of_hold h hrst htick], ?_⟩⟩
  obtain ⟨hemit, hdiscard, hpayload, -, herr, -⟩ := ports_gated s.regs
  simp only [step_events h, hemit, hdiscard]
  split
  case isTrue hat =>
    obtain ⟨-, -, hs⟩ := hat
    obtain ⟨hraw0, hraw1, hmeas0, hmeas1⟩ := hpayload hs
    rw [hraw0, hraw1, hmeas0, hmeas1]
  case isFalse =>
    split
    case isTrue hat =>
      obtain ⟨-, -, hs⟩ := hat
      rw [herr hs]
    case isFalse => rfl

/-- Settles O38: the doc-level state depends on STATE and WIDX only, and the mapping is checked for each of their values. -/
theorem docStateIsTheMapping : Obligations.DocStateIsTheMapping := by
  intro r
  unfold Regs.docState
  generalize r.state = code
  generalize r.widx = widx
  revert code widx
  decide

end Sys2Proof.Machine

/-! ### Line sampling and events (spec/20_memory.md): which levels a step uses, and what it delivers -/

namespace Sys2Proof.Machine

/-! #### Which line levels select an operation (R46) -/

/-- The data level selects between operations in S_BIT_SAMPLE only (30_encoding.md R69). -/
theorem decodeTick_data_unused {st : BitVec 4} (h : st ≠ sBitSample) (c d d' : Bool) (g : Guards) :
    decodeTick st c d g = decodeTick st c d' g := by
  unfold decodeTick
  split
  case h_4 hcode => exact absurd (BitVec.eq_of_toNat_eq hcode) h
  all_goals rfl

/-- S_CONVERT, S_EMIT and S_DISCARD have one operation each, whatever the lines are (30_encoding.md R69). -/
theorem decodeTick_lines_unused {st : BitVec 4} (h : st = sConvert ∨ st = sEmit ∨ st = sDiscard) (c d c' d' : Bool)
    (g : Guards) : decodeTick st c d g = decodeTick st c' d' g := by
  obtain rfl | rfl | rfl := h
  · rfl
  · rfl
  · rfl

/-! #### A tick's levels reach the step through the selection alone -/

/-- Counting does not look at the stimulus. -/
theorem countTick_with_stimulus (s : State) (l : List Pins) :
    ({ s with stimulus := l } : State).countTick = { s.countTick with stimulus := l } := by
  unfold State.countTick
  split
  · rfl
  · rfl

/-- No operation looks at the stimulus or changes it. -/
theorem exec_with_stimulus {i : Instr} {s t : State} (h : exec i s = .next t) (l : List Pins) :
    exec i { s with stimulus := l } = .next { t with stimulus := l } := by
  cases i <;> cases h
  case syncMeasCount | bitMeasCount =>
    exact congrArg (fun u : State => Host.Outcome.next (u.setState _)) (countTick_with_stimulus s l)
  case bitSampleOk d => cases d <;> rfl
  all_goals rfl

/-- An edge for which the decoder has no operation is refused by name (30_encoding.md R72). -/
theorem step_of_reject {s : State} {r : Reject} (hlegal : s.cfg.legal = true)
    (hdec : decode s.sel s.guards = .error r) : step s = .refused (refusalOf r) := by
  simp [step, hlegal, hdec]

section
variable {s : State} {c d : Bool} (l : List Pins)

/-- The decoder at a tick written down as the next one. -/
theorem decode_with_tick : decode ({ s with stimulus := tickPins c d :: l } : State).sel s.guards =
    decodeTick s.regs.state c d s.guards :=
  decode_of_tick (s := { s with stimulus := tickPins c d :: l }) (pins_of_stimulus rfl)

/-- The step of a tick is a function of the operation that the tick selects; its entry of the stimulus is used up. -/
theorem step_with_tick {i : Instr} {u : State} (hlegal : s.cfg.legal = true)
    (hdec : decodeTick s.regs.state c d s.guards = .ok i) (hexec : exec i s = .next u) :
    step { s with stimulus := tickPins c d :: l } =
      .next { u with stimulus := l, edge := u.edge + 1, tickNo := u.tickNo + 1 } :=
  step_of_exec (s := { s with stimulus := tickPins c d :: l }) hlegal ((decode_with_tick l).trans hdec)
    (exec_with_stimulus hexec _)

/-- The step of a tick that selects no operation is its refusal. -/
theorem step_with_rejected_tick {r : Reject} (hlegal : s.cfg.legal = true)
    (hdec : decodeTick s.regs.state c d s.guards = .error r) :
    step { s with stimulus := tickPins c d :: l } = .refused (refusalOf r) :=
  step_of_reject (s := { s with stimulus := tickPins c d :: l }) hlegal ((decode_with_tick l).trans hdec)

end

/-- Two ticks that select alike step alike. -/
theorem step_tick_congr {s : State} {c d c' d' : Bool} (l : List Pins)
    (h : decodeTick s.regs.state c d s.guards = decodeTick s.regs.state c' d' s.guards) :
    step { s with stimulus := tickPins c d :: l } = step { s with stimulus := tickPins c' d' :: l } := by
  cases hlegal : s.cfg.legal with
  | false => rw [step_of_illegal (by exact hlegal), step_of_illegal (by exact hlegal)]
  | true =>
    cases hdec : decodeTick s.regs.state c d s.guards with
    | error r => rw [step_with_rejected_tick l hlegal hdec, step_with_rejected_tick l hlegal (h.symm.trans hdec)]
    | ok i =>
      obtain ⟨u, hexec⟩ := exec_next i s
      rw [step_with_tick l hlegal hdec hexec, step_with_tick l hlegal (h.symm.trans hdec) hexec]

/-- Settles O23: the levels that differ are unused by the selection, and a step uses them for nothing else. -/
theorem lineLevelsAreUsedOnlyWhereSaid : Obligations.LineLevelsAreUsedOnlyWhereSaid := by
  intro s c d c' d' l hsample hclk
  refine step_tick_congr l ?_
  obtain rfl | hstate := hclk
  · exact decodeTick_data_unused hsample c d d' s.guards
  · exact decodeTick_lines_unused hstate c d c' d' s.guards

/-! #### Events (R47) -/

/-- Settles O34: the log after a step, by the control state and the kind of edge, is what `step_events` says. -/
theorem eventsComeFromEmitAndDiscardOnly : Obligations.EventsComeFromEmitAndDiscardOnly :=
  fun _ _ h => step_events h

end Sys2Proof.Machine

/-! ### Encoding (spec/30_encoding.md): the opcode table, the encoder, the ignored bits, the unused codes and the macros -/

namespace Sys2Proof.Machine

/-! #### A selector is its fields, and a row's mask clears some of them (R67, R70) -/

section
variable {w : Sel} {g : Guards} {code : BitVec 4} {c : Bool}

/-- A selector is put together again from the fields it holds. -/
theorem selector_fields (w : Sel) : selector (selPins w) (selState w) = w := by
  revert w
  decide

/-- Selectors are equal when their fields are. -/
theorem selector_inj {p q : Pins} {st st' : BitVec 4} : selector p st = selector q st' ↔ p = q ∧ st = st' := by
  constructor
  · intro h
    have hpins : selPins (selector p st) = p := by simp [selPins]
    have hpins' : selPins (selector q st') = q := by simp [selPins]
    exact ⟨by rw [← hpins, h, hpins'], by rw [← selState_selector p st, h, selState_selector]⟩
  · rintro ⟨rfl, rfl⟩
    rfl

/-- The mask of RESET keeps `r`. -/
theorem and_resetMask (w : Sel) : w &&& 0x80#8 = selector ⟨selRst w, false, false, false⟩ 0#4 := by
  revert w
  decide

/-- The mask of HOLD keeps `r` and `t`. -/
theorem and_holdMask (w : Sel) : w &&& 0x84#8 = selector ⟨selRst w, selTick w, false, false⟩ 0#4 := by
  revert w
  decide

/-- The mask of CONVERT, EMIT and DISCARD clears `c` and `d`. -/
theorem and_stateMask (w : Sel) : w &&& 0xFC#8 = selector ⟨selRst w, selTick w, false, false⟩ (selState w) := by
  revert w
  decide

/-- The mask of the other operations clears `d`. -/
theorem and_clockMask (w : Sel) : w &&& 0xFE#8 = selector ⟨selRst w, selTick w, selClk w, false⟩ (selState w) := by
  revert w
  decide

/-- The operand of BIT.SAMPLE.OK is `d`. -/
theorem and_dataMask (w : Sel) : w &&& 0x01#8 = if selData w then 0x01#8 else 0x00#8 := by
  revert w
  decide

theorem resetRow_iff : w &&& 0x80#8 = 0x80#8 ↔ selRst w = true := by
  rw [and_resetMask, show 0x80#8 = selector ⟨true, false, false, false⟩ 0#4 from rfl, selector_inj]
  simp

theorem holdRow_iff : w &&& 0x84#8 = 0x00#8 ↔ selRst w = false ∧ selTick w = false := by
  rw [and_holdMask, show 0x00#8 = selector ⟨false, false, false, false⟩ 0#4 from rfl, selector_inj]
  simp

/-- The word `0 ssss 1 0 0` under the mask that clears both lines: a tick in that control state. -/
theorem stateRow_iff : w &&& 0xFC#8 = selector (tickPins false false) code ↔
    selRst w = false ∧ selTick w = true ∧ selState w = code := by
  rw [and_stateMask, selector_inj]
  simp [tickPins, and_assoc]

/-- The word `0 ssss 1 c 0` under the mask that clears the data line: a tick in that control state at that clock level. -/
theorem clockRow_iff : w &&& 0xFE#8 = selector (tickPins c false) code ↔
    selRst w = false ∧ selTick w = true ∧ selState w = code ∧ selClk w = c := by
  rw [and_clockMask, selector_inj]
  simp only [tickPins, Pins.mk.injEq]
  tauto

/-! #### The decoder is the opcode table (R70, R71) -/

/-- A word of a row that names the control state is read as a tick there. -/
theorem decode_of_stateRow (h : w &&& 0xFC#8 = selector (tickPins false false) code) :
    decode w g = decodeTick code (selClk w) (selData w) g := by
  obtain ⟨hrst, htick, rfl⟩ := stateRow_iff.1 h
  simp [decode, hrst, htick]

/-- A word of a row that names the control state and the clock level is read as a tick there, at that level. -/
theorem decode_of_clockRow (h : w &&& 0xFE#8 = selector (tickPins c false) code) :
    decode w g = decodeTick code c (selData w) g := by
  obtain ⟨hrst, htick, rfl, rfl⟩ := clockRow_iff.1 h
  simp [decode, hrst, htick]

/-- What a row accepts, the decoder reads: the row's mask and match give the fields, the guard and the operand the rest. -/
theorem decode_of_accepts {i : Instr} (h : i.accepts w g) : decode w g = .ok i := by
  obtain ⟨hrow, hguard, hoperand⟩ := h
  cases i
  case reset => simp [decode, resetRow_iff.1 hrow]
  case hold =>
    obtain ⟨hrst, htick⟩ := holdRow_iff.1 hrow
    simp [decode, hrst, htick]
  case syncArmHold => exact decode_of_clockRow (code := sSyncArm) (c := true) hrow
  case syncArmGo => exact decode_of_clockRow (code := sSyncArm) (c := false) hrow
  case syncWaitHold => exact decode_of_clockRow (code := sSyncWait) (c := false) hrow
  case syncWaitRise => exact decode_of_clockRow (code := sSyncWait) (c := true) hrow
  case syncMeasCount => exact decode_of_clockRow (code := sSyncMeas) (c := true) hrow
  case syncMeasAccept | syncMeasShort =>
    rw [decode_of_clockRow (code := sSyncMeas) (c := false) hrow]
    simp_all [decodeTick, sSyncMeas, Instr.rowGuard]
  case bitSampleOk d =>
    have hdata : selData w = d := by
      rw [Instr.operandMask, and_dataMask] at hoperand
      revert hoperand
      cases selData w <;> cases d <;> decide
    rw [decode_of_clockRow (code := sBitSample) (c := false) hrow, hdata]
    rfl
  case bitSampleGlitch => exact decode_of_clockRow (code := sBitSample) (c := true) hrow
  case bitWaitHold => exact decode_of_clockRow (code := sBitWait) (c := false) hrow
  case bitWaitRise => exact decode_of_clockRow (code := sBitWait) (c := true) hrow
  case bitMeasCount => exact decode_of_clockRow (code := sBitMeas) (c := true) hrow
  case bitMeasNext | bitMeasBound | bitMeasWord0 | bitMeasWord1 | bitMeasBadlen =>
    rw [decode_of_clockRow (code := sBitMeas) (c := false) hrow]
    simp_all [decodeTick, sBitMeas, Instr.rowGuard, decodePulseEnd]
  case convert => exact decode_of_stateRow (code := sConvert) hrow
  case emit => exact decode_of_stateRow (code := sEmit) hrow
  case discard => exact decode_of_stateRow (code := sDiscard) hrow

/-- At the end of a pulse the five rows share mask and match; the guards on the decoder's path are the row's. -/
theorem accepts_decodePulseEnd (hrow : w &&& 0xFE#8 = 0x2C#8) : (decodePulseEnd g).accepts w g := by
  unfold decodePulseEnd
  split_ifs with hmark hlen hw0 hbound
  all_goals exact ⟨hrow, by simp [Instr.rowGuard, *], BitVec.and_zero⟩

/-- What the decoder reads at a tick, that row accepts. -/
theorem accepts_of_decodeTick {i : Instr} (hrst : selRst w = false) (htick : selTick w = true)
    (h : decodeTick (selState w) (selClk w) (selData w) g = .ok i) : i.accepts w g := by
  have hstate : ∀ {n : Nat} (v : BitVec 4), (selState w).toNat = n → v.toNat = n →
      w &&& 0xFC#8 = selector (tickPins false false) v :=
    fun v hn hv => stateRow_iff.2 ⟨hrst, htick, BitVec.eq_of_toNat_eq (hn.trans hv.symm)⟩
  have hclock : ∀ {n : Nat} {c : Bool} (v : BitVec 4), (selState w).toNat = n → v.toNat = n → selClk w = c →
      w &&& 0xFE#8 = selector (tickPins c false) v :=
    fun v hn hv hc => clockRow_iff.2 ⟨hrst, htick, BitVec.eq_of_toNat_eq (hn.trans hv.symm), hc⟩
  unfold decodeTick at h
  split at h <;> cases h
  case h_1 hn => cases hc : selClk w <;> exact ⟨hclock sSyncArm hn rfl hc, rfl, BitVec.and_zero⟩
  case h_2 hn => cases hc : selClk w <;> exact ⟨hclock sSyncWait hn rfl hc, rfl, BitVec.and_zero⟩
  case h_3 hn =>
    cases hc : selClk w
    · cases hmark : g.mark
      · exact ⟨hclock sSyncMeas hn rfl hc, by simp [Instr.rowGuard, hmark], BitVec.and_zero⟩
      · exact ⟨hclock sSyncMeas hn rfl hc, hmark, BitVec.and_zero⟩
    · exact ⟨hclock sSyncMeas hn rfl hc, rfl, BitVec.and_zero⟩
  case h_4 hn =>
    cases hc : selClk w
    · exact ⟨hclock sBitSample hn rfl hc, rfl, and_dataMask w⟩
    · exact ⟨hclock sBitSample hn rfl hc, rfl, BitVec.and_zero⟩
  case h_5 hn => cases hc : selClk w <;> exact ⟨hclock sBitWait hn rfl hc, rfl, BitVec.and_zero⟩
  case h_6 hn =>
    cases hc : selClk w
    · exact accepts_decodePulseEnd (hclock sBitMeas hn rfl hc)
    · exact ⟨hclock sBitMeas hn rfl hc, rfl, BitVec.and_zero⟩
  case h_7 hn => exact ⟨hstate sConvert hn rfl, rfl, BitVec.and_zero⟩
  case h_8 hn => exact ⟨hstate sEmit hn rfl, rfl, BitVec.and_zero⟩
  case h_9 hn => exact ⟨hstate sDiscard hn rfl, rfl, BitVec.and_zero⟩

/-- What the decoder reads, that row accepts. -/
theorem accepts_of_decode {i : Instr} (h : decode w g = .ok i) : i.accepts w g := by
  unfold decode at h
  split at h
  case isTrue hrst =>
    cases h
    exact ⟨resetRow_iff.2 hrst, rfl, BitVec.and_zero⟩
  case isFalse hrst =>
    have hrst := Bool.eq_false_iff.2 hrst
    split at h
    case isTrue htick => exact accepts_of_decodeTick hrst htick h
    case isFalse htick =>
      cases h
      exact ⟨holdRow_iff.2 ⟨hrst, Bool.eq_false_iff.2 htick⟩, rfl, BitVec.and_zero⟩

theorem decode_eq_ok_iff_accepts {i : Instr} : decode w g = .ok i ↔ i.accepts w g :=
  ⟨accepts_of_decode, decode_of_accepts⟩

/-- The decoder reads an operation from every selector but a tick in an unused state code (R71). -/
theorem decode_ok_of_fields (h : selRst w = true ∨ selTick w = false ∨ (selState w).toNat ≤ 8) :
    ∃ i, decode w g = .ok i := by
  unfold decode
  split
  case isTrue => exact ⟨_, rfl⟩
  case isFalse hrst =>
    split
    case isTrue htick => exact decodeTick_ok (by simpa [hrst, htick] using h) _ _ _
    case isFalse => exact ⟨_, rfl⟩

end

/-- Settles O20: decoder and table agree in both directions, and the decoder's answer is the one row that accepts. -/
theorem decoderIsTheOpcodeTable : Obligations.DecoderIsTheOpcodeTable := by
  refine ⟨fun w g i => decode_eq_ok_iff_accepts, fun w g hfields => ?_⟩
  obtain ⟨i, hdec⟩ := decode_ok_of_fields hfields
  refine ⟨i, accepts_of_decode hdec, fun j hj => ?_⟩
  cases hdec.symm.trans (decode_of_accepts hj)
  rfl

/-! #### Decode and encode: an operation's bits, its operand's bits and its ignored bits (R67, R70) -/

/-- Every operation's encoded word is in its row. -/
theorem encoded (i : Instr) : Laws.Encoded.Statement i := by
  cases i
  exacts [Laws.Encoded.reset, Laws.Encoded.hold, Laws.Encoded.syncArmHold, Laws.Encoded.syncArmGo,
    Laws.Encoded.syncWaitHold, Laws.Encoded.syncWaitRise, Laws.Encoded.syncMeasCount, Laws.Encoded.syncMeasAccept,
    Laws.Encoded.syncMeasShort, Laws.Encoded.bitSampleOk _, Laws.Encoded.bitSampleGlitch, Laws.Encoded.bitWaitHold,
    Laws.Encoded.bitWaitRise, Laws.Encoded.bitMeasCount, Laws.Encoded.bitMeasNext, Laws.Encoded.bitMeasBound,
    Laws.Encoded.bitMeasWord0, Laws.Encoded.bitMeasWord1, Laws.Encoded.bitMeasBadlen, Laws.Encoded.convert,
    Laws.Encoded.emit, Laws.Encoded.discard]

/-- Bits chosen outside two masks are seen through neither of them. -/
theorem or_outside_and {m o : Sel} (e x : Sel) : (e ||| (x &&& ~~~(m ||| o))) &&& m = e &&& m := by
  ext k
  grind

/-- A word is the bits under two masks and the bits under neither. -/
theorem or_masks_eq (w m o : Sel) : w = (w &&& m) ||| (w &&& o) ||| (w &&& ~~~(m ||| o)) := by
  ext k
  grind

/-- Settles O21: an encoded word keeps its row's bits and its operand's whatever else is chosen, and a word that decodes to an
operation has the bits that the encoder writes there. -/
theorem decodeOfEncodeIsTheOperation : Obligations.DecodeOfEncodeIsTheOperation := by
  refine ⟨fun i g x _ hguard => decode_of_accepts ?_, fun w g i hdec => ?_⟩
  · obtain ⟨hrow, hoperand, -, -⟩ := encoded i
    refine ⟨?_, hguard, ?_⟩
    · rw [Instr.ignoredMask, or_outside_and, hrow]
    · rw [Instr.ignoredMask, BitVec.or_comm i.rowMask, or_outside_and, hoperand]
  · obtain ⟨hrow, -, hoperand⟩ := accepts_of_decode hdec
    rw [encode, ← hrow, ← hoperand, Instr.ignoredMask]
    exact or_masks_eq w i.rowMask i.operandMask

/-! #### Ignored bits (R74) -/

/-- Words that differ outside two masks only are the same under either of them. -/
theorem and_eq_of_xor_and_or {w v m o : Sel} (h : (w ^^^ v) &&& (m ||| o) = 0#8) : w &&& m = v &&& m := by
  ext k hk
  have hbit : ((w ^^^ v) &&& (m ||| o))[k] = (0#8)[k] := by rw [h]
  grind

/-- The row that accepts a word accepts every word that differs from it in ignored bits only. -/
theorem accepts_congr {i : Instr} {w v : Sel} {g : Guards} (h : i.accepts w g)
    (hdiff : (w ^^^ v) &&& ~~~i.ignoredMask = 0#8) : i.accepts v g := by
  obtain ⟨hrow, hguard, hoperand⟩ := h
  rw [Instr.ignoredMask, BitVec.not_not] at hdiff
  refine ⟨?_, hguard, ?_⟩
  · rw [← and_eq_of_xor_and_or hdiff, hrow]
  · rw [BitVec.or_comm] at hdiff
    rw [← and_eq_of_xor_and_or hdiff, hoperand]

/-- Settles O22: the mask of each operation is computed, and acceptance by a row does not see the bits it ignores. -/
theorem ignoredInputsDoNotMatter : Obligations.IgnoredInputsDoNotMatter := by
  refine ⟨fun i => ?_, fun w v g i hdec hdiff => ?_⟩
  · cases i
    case bitSampleOk d => cases d <;> rfl
    all_goals rfl
  · exact decode_of_accepts (accepts_congr (accepts_of_decode hdec) hdiff)

/-! #### Unused state codes (R72) -/

/-- A tick in one of the codes 9 to 15 selects nothing. -/
theorem decodeTick_of_unused {st : BitVec 4} (h : 9 ≤ st.toNat) (c d : Bool) (g : Guards) :
    decodeTick st c d g = .error (.unusedStateCode st) := by
  unfold decodeTick
  split
  case h_10 => rfl
  all_goals omega

/-- Settles O26: a row that accepted would be decoded, and the decoder rejects the tick; RESET and HOLD are selected without
a look at the control state. -/
theorem unusedStateCodesAreRefused : Obligations.UnusedStateCodesAreRefused := by
  refine ⟨fun w g i hrst htick hcode haccepts => ?_, fun s hlegal hcode => ⟨fun hrst => ?_, fun hrst htick => ?_,
    fun hrst htick => ?_⟩⟩
  · have hdec := decode_of_accepts haccepts
    simp [decode, hrst, htick, decodeTick_of_unused hcode] at hdec
  · rw [step_of_exec hlegal (decode_of_rst hrst) rfl]
    simp [State.endEdge, State.frameClear, hrst]
  · rw [step_of_exec hlegal (decode_of_hold hrst htick) rfl]
    simp [State.endEdge, htick]
  · refine step_of_reject hlegal (r := .unusedStateCode s.regs.state) ?_
    rw [State.sel, decode_selector]
    simp [hrst, htick, decodeTick_of_unused hcode]

/-! #### The lengths of the stimulus macros (R77 to R79) -/

@[simp] theorem length_bitCell (b : Bool) (lo hi : Nat) : (bitCell b lo hi).length = lo + hi := by
  simp [bitCell]

/-- A word is cells closed by short pulses, and then one closed by the marker. -/
theorem wordN_succ (v n lo hi mk : Nat) : wordN v (n + 1) lo hi mk =
    ((List.range n).flatMap fun k => bitCell (v.testBit k) lo hi) ++ bitCell (v.testBit n) lo mk := by
  have hshort : ∀ k ∈ List.range n, bitCell (v.testBit k) lo (if k + 1 = n + 1 then mk else hi) =
      bitCell (v.testBit k) lo hi := by
    intro k hk
    have := List.mem_range.1 hk
    rw [if_neg (by omega)]
  rw [wordN, List.range_succ, List.flatMap_append, List.flatMap_congr hshort]
  simp

theorem length_wordN_succ (v n lo hi mk : Nat) : (wordN v (n + 1) lo hi mk).length = n * (lo + hi) + (lo + mk) := by
  simp [wordN_succ, List.length_flatMap]

theorem length_word (v lo hi mk : Nat) : (word v lo hi mk).length = 24 * lo + 23 * hi + mk := by
  rw [word, length_wordN_succ]
  omega

/-- Settles O48: a frame is a marker and two words. -/
theorem macroLengths : Obligations.MacroLengths := by
  refine ⟨fun v n lo hi mk hn => ?_, length_word, fun v0 v1 lo hi mk => ?_⟩
  · obtain ⟨m, rfl⟩ := Nat.exists_eq_add_of_le' hn
    rw [length_wordN_succ, Nat.add_sub_cancel]
    ring
  · rw [frame, List.length_append, List.length_append, length_word, length_word, markPulse, List.length_replicate]
    omega

/-! #### Words written out (R67, R70) -/

/-- Settles O24: the decoder evaluates each of the twelve words. -/
theorem writtenOutWordsDecode : Obligations.WrittenOutWordsDecode := by
  unfold Obligations.WrittenOutWordsDecode
  decide

end Sys2Proof.Machine

/-! ### Frame synchronizer (spec/40_frame_synchronizer.md): its operations, the errors, and pulses of any length -/

namespace Sys2Proof.Machine

/-! #### A tick runs the operation it selects -/

section
variable {s : State} {i : Instr} {code : BitVec 4} {c d : Bool}

/-- The decoder reads the operation that a tick selects (30_encoding.md R68, R69): the converse of
`tickSelects_of_decodeTick`. -/
theorem decode_of_tickSelects (hpins : s.pins = tickPins c d) (h : TickSelects s i) :
    decode s.sel s.guards = .ok i := by
  have hlines : decode s.sel s.guards = decodeTick s.regs.state s.pins.clkIn s.pins.dataIn s.guards := by
    rw [decode_of_tick hpins, hpins]
    rfl
  rw [hlines]
  cases h
  case syncMeasAccept hs hc hmark => simp [hs, hc, decodeTick, State.guards, State.mark, hmark]
  case syncMeasShort hs hc hmark => simp [hs, hc, decodeTick, State.guards, State.mark, hmark.not_ge]
  case bitMeasNext hs hc hmark hbound | bitMeasBound hs hc hmark hbound =>
    simp [hs, hc, decodeTick, decodePulseEnd, State.guards, State.mark, State.bound, hmark.not_ge, hbound]
  case bitMeasWord0 hs hc hmark hlen hw | bitMeasWord1 hs hc hmark hlen hw =>
    simp [hs, hc, decodeTick, decodePulseEnd, State.guards, State.mark, State.len, State.w0, hmark, hlen, hw]
  case bitMeasBadlen hs hc hmark hlen =>
    simp [hs, hc, decodeTick, decodePulseEnd, State.guards, State.mark, State.len, hmark, hlen]
  case convert hs | emit hs | discard hs =>
    rw [hs]
    rfl
  case syncArmHold hs hc | syncArmGo hs hc | syncWaitHold hs hc | syncWaitRise hs hc | syncMeasCount hs hc
      | bitSampleOk hs hc | bitSampleGlitch hs hc | bitWaitHold hs hc | bitWaitRise hs hc | bitMeasCount hs hc =>
    rw [hs, hc]
    rfl

theorem State.tickAt.legal (h : s.tickAt code c d) : s.cfg.legal = true := h.1

theorem State.tickAt.state (h : s.tickAt code c d) : s.regs.state = code := h.2.2

theorem State.tickAt.clkIn (h : s.tickAt code c d) : s.pins.clkIn = c := by
  obtain ⟨-, hpins, -⟩ := h
  rw [hpins]
  rfl

/-- A tick that selects an operation which only writes registers: the selection, and the step. -/
theorem State.tickAt.runs {r : Regs} (h : s.tickAt code c d) (hsel : TickSelects s i)
    (hexec : exec i s = .next { s with regs := r }) :
    decode s.sel s.guards = .ok i ∧ step s = .next (s.ticked r) := by
  obtain ⟨hlegal, hpins, -⟩ := h
  have hdec := decode_of_tickSelects hpins hsel
  exact ⟨hdec, step_of_tick hlegal hpins hdec hexec⟩

end

/-! #### What each operation writes, as a record -/

section
variable {s : State}

/-- The tick of one more count in a pulse (R85, 41_word_receiver.md R94): DUR goes up by one and stays at 2^CW - 1. -/
def countDur (c : Config) (dur : BitVec 32) : BitVec 32 :=
  if dur.toNat < 2 ^ c.cw - 1 then dur + 1#32 else dur

theorem countTick_eq_countDur (h : s.cfg.legal = true) :
    s.countTick = { s with regs := { s.regs with dur := countDur s.cfg s.regs.dur } } := by
  rw [countTick_eq h, countDur]
  simp [BitVec.ofNat_add]

theorem exec_syncWaitRise (h : s.cfg.legal = true) :
    exec .syncWaitRise s = .next { s with regs := { s.regs with dur := 1#32, state := sSyncMeas } } :=
  congrArg (fun u : State => Host.Outcome.next (u.setState sSyncMeas)) (setDur_one h)

theorem exec_syncMeasCount (h : s.cfg.legal = true) :
    exec .syncMeasCount s =
      .next { s with regs := { s.regs with dur := countDur s.cfg s.regs.dur, state := sSyncMeas } } :=
  congrArg (fun u : State => Host.Outcome.next (u.setState sSyncMeas)) (countTick_eq_countDur h)

theorem exec_bitMeasCount (h : s.cfg.legal = true) :
    exec .bitMeasCount s =
      .next { s with regs := { s.regs with dur := countDur s.cfg s.regs.dur, state := sBitMeas } } :=
  congrArg (fun u : State => Host.Outcome.next (u.setState sBitMeas)) (countTick_eq_countDur h)

theorem exec_syncMeasAccept (s : State) : exec .syncMeasAccept s = .next { s with regs := { s.regs with
    widx := 0#1, acc := 0#63, weight := 1#64, dur := 0#32, state := sBitSample } } :=
  congrArg (fun u : State => Host.Outcome.next (u.setState sBitSample)) (beginWord_eq (s.setWidx 0#1))

/-- The three operations that end a pulse with an error clear DUR and take the error (R87, 41_word_receiver.md R96, R99). -/
theorem raise_setDur_zero (s : State) (e : ProtocolError) : (s.setDur 0).raise e = { s with regs := { s.regs with
    err := s.regs.err ||| errCode e, dur := 0#32, state := sDiscard } } := by
  rw [setDur_zero]
  rfl

theorem exec_syncMeasShort (s : State) : exec .syncMeasShort s = .next { s with regs := { s.regs with
    err := s.regs.err ||| 0b001#3, dur := 0#32, state := sDiscard } } :=
  congrArg Host.Outcome.next (raise_setDur_zero s .startPulseTooShort)

theorem exec_bitMeasBound (s : State) : exec .bitMeasBound s = .next { s with regs := { s.regs with
    err := s.regs.err ||| 0b100#3, dur := 0#32, state := sDiscard } } :=
  congrArg Host.Outcome.next (raise_setDur_zero s .wordLengthMismatch)

theorem exec_bitMeasBadlen (s : State) : exec .bitMeasBadlen s = .next { s with regs := { s.regs with
    err := s.regs.err ||| 0b100#3, dur := 0#32, state := sDiscard } } :=
  congrArg Host.Outcome.next (raise_setDur_zero s .wordLengthMismatch)

end

/-! #### The synchronizer's operations (R81 to R87) and the errors (R124), at a tick -/

section
variable {s : State} {code : BitVec 4} {c d : Bool}

/-- Writing STATE with the code it holds changes nothing (R81, R83, 41_word_receiver.md R92). -/
theorem State.tickAt.with_state (h : s.tickAt code c d) : { s.regs with state := code } = s.regs := by
  rw [← h.state]

/-- The control states that wait, and the clock level that holds them there (R81, R83, 41_word_receiver.md R92). -/
inductive WaitsAt : BitVec 4 → Bool → Instr → Prop
  | syncArm : WaitsAt sSyncArm true .syncArmHold
  | syncWait : WaitsAt sSyncWait false .syncWaitHold
  | bitWait : WaitsAt sBitWait false .bitWaitHold

/-- A waiting operation keeps every register. -/
theorem State.tickAt.waits {i : Instr} (h : s.tickAt code c d) (hwait : WaitsAt code c i) :
    decode s.sel s.guards = .ok i ∧ step s = .next (s.ticked s.regs) := by
  rw [← h.with_state]
  cases hwait with
  | syncArm => exact h.runs (.syncArmHold h.state h.clkIn) rfl
  | syncWait => exact h.runs (.syncWaitHold h.state h.clkIn) rfl
  | bitWait => exact h.runs (.bitWaitHold h.state h.clkIn) rfl

theorem State.tickAt.syncArmGo (h : s.tickAt sSyncArm false d) :
    decode s.sel s.guards = .ok .syncArmGo ∧ step s = .next (s.ticked { s.regs with state := sSyncWait }) :=
  h.runs (.syncArmGo h.state h.clkIn) rfl

theorem State.tickAt.syncWaitRise (h : s.tickAt sSyncWait true d) :
    decode s.sel s.guards = .ok .syncWaitRise ∧
      step s = .next (s.ticked { s.regs with dur := 1#32, state := sSyncMeas }) :=
  h.runs (.syncWaitRise h.state h.clkIn) (exec_syncWaitRise h.legal)

theorem State.tickAt.syncMeasCount (h : s.tickAt sSyncMeas true d) :
    decode s.sel s.guards = .ok .syncMeasCount ∧
      step s = .next (s.ticked { s.regs with dur := countDur s.cfg s.regs.dur }) := by
  have hruns := h.runs (.syncMeasCount h.state h.clkIn) (exec_syncMeasCount h.legal)
  rwa [← h.with_state]

theorem State.tickAt.bitMeasCount (h : s.tickAt sBitMeas true d) :
    decode s.sel s.guards = .ok .bitMeasCount ∧
      step s = .next (s.ticked { s.regs with dur := countDur s.cfg s.regs.dur }) := by
  have hruns := h.runs (.bitMeasCount h.state h.clkIn) (exec_bitMeasCount h.legal)
  rwa [← h.with_state]

theorem State.tickAt.syncMeasAccept (h : s.tickAt sSyncMeas false d) (hmark : s.cfg.threshold ≤ s.regs.dur.toNat) :
    decode s.sel s.guards = .ok .syncMeasAccept ∧
      step s = .next (s.ticked { s.regs with
        widx := 0#1, acc := 0#63, weight := 1#64, dur := 0#32, state := sBitSample }) :=
  h.runs (.syncMeasAccept h.state h.clkIn hmark) (exec_syncMeasAccept s)

theorem State.tickAt.syncMeasShort (h : s.tickAt sSyncMeas false d) (hmark : s.regs.dur.toNat < s.cfg.threshold) :
    decode s.sel s.guards = .ok .syncMeasShort ∧
      step s = .next (s.ticked { s.regs with err := s.regs.err ||| 0b001#3, dur := 0#32, state := sDiscard }) :=
  h.runs (.syncMeasShort h.state h.clkIn hmark) (exec_syncMeasShort s)

/-- R112: the tick in S_DISCARD delivers the event and clears the frame, at any line levels. -/
theorem State.tickAt.discard (h : s.tickAt sDiscard c d) :
    decode s.sel s.guards = .ok .discard ∧
      step s = .next { s.ticked Regs.reset with events := s.events ++ [⟨s.tickNo, .discard s.regs.err⟩] } := by
  obtain ⟨hlegal, hpins, hstate⟩ := h
  have hdec := decode_of_tickSelects hpins (.discard hstate)
  refine ⟨hdec, ?_⟩
  rw [step_of_exec hlegal hdec rfl, hpins]
  rfl

end

/-- Settles O4: a waiting operation writes STATE with the code it holds. -/
theorem waitOperationsHoldTheBlock : Obligations.WaitOperationsHoldTheBlock :=
  ⟨fun _ => rfl, fun _ => rfl, fun _ => rfl, fun _ _ h => h.waits .syncArm, fun _ _ h => h.waits .syncWait,
    fun _ _ h => h.waits .bitWait⟩

/-- Settles O5: the tick selects SYNC.ARM.GO, which writes STATE only. -/
theorem armGoesToWaitWhenClockIsLow : Obligations.ArmGoesToWaitWhenClockIsLow :=
  ⟨fun _ => rfl, fun _ _ h => h.syncArmGo⟩

/-- Settles O6: a legal configuration has room for the count of 1. -/
theorem riseInSyncStartsTheCountAtOne : Obligations.RiseInSyncStartsTheCountAtOne :=
  ⟨fun _ => exec_syncWaitRise, fun _ _ h => h.syncWaitRise⟩

/-- Settles O9: SYNC.MEAS.ACCEPT is the start of a word, after WIDX is cleared. -/
theorem acceptedMarkerStartsWordZero : Obligations.AcceptedMarkerStartsWordZero :=
  ⟨exec_syncMeasAccept, fun _ _ h => h.syncMeasAccept⟩

/-- Settles O10: each of the four takes its error, three of them after clearing DUR; R7 makes 24 the LEN guard's word
length. -/
theorem errorOperationsRaiseTheirFlag : Obligations.ErrorOperationsRaiseTheirFlag := by
  refine ⟨exec_syncMeasShort, fun s => rfl, exec_bitMeasBound, exec_bitMeasBadlen, fun s d h => h.syncMeasShort,
    fun s d h => ?_, fun s d h hmark hbound => ?_, fun s d h hmark hlen => ?_⟩
  · exact h.runs (.bitSampleGlitch h.state h.clkIn) rfl
  · exact h.runs (.bitMeasBound h.state h.clkIn hmark hbound) (exec_bitMeasBound s)
  · rw [← Config.wordBits_of_legal h.legal] at hlen
    exact h.runs (.bitMeasBadlen h.state h.clkIn hmark hlen) (exec_bitMeasBadlen s)

/-! #### Counting saturates (R85, R94) -/

section
variable {c : Config} {dur : BitVec 32}

/-- Below 2^CW - 1 the count goes up by one. -/
theorem toNat_countDur_of_lt (hlegal : c.legal = true) (h : dur.toNat < 2 ^ c.cw - 1) :
    (countDur c dur).toNat = dur.toNat + 1 := by
  have hcw := Config.cw_pow_of_legal hlegal
  rw [countDur, if_pos h]
  bv_omega

/-- At 2^CW - 1 it stays. -/
theorem countDur_of_le (h : 2 ^ c.cw - 1 ≤ dur.toNat) : countDur c dur = dur :=
  if_neg h.not_gt

/-- Counting any number of ticks, from a DUR that fits. -/
theorem toNat_countDur_iterate (hlegal : c.legal = true) (h : dur.toNat ≤ 2 ^ c.cw - 1) (k : ℕ) :
    ((countDur c)^[k] dur).toNat = min (dur.toNat + k) (2 ^ c.cw - 1) := by
  induction k with
  | zero => simp [h]
  | succ k ih =>
    rw [Function.iterate_succ_apply']
    by_cases hlt : dur.toNat + k < 2 ^ c.cw - 1
    · rw [toNat_countDur_of_lt hlegal (by omega)]
      omega
    · rw [countDur_of_le (by omega)]
      omega

/-- Saturation never changes the classification: THRESHOLD is at most 2^CW - 1 (R6). -/
theorem threshold_le_min_iff (hlegal : c.legal = true) (n : ℕ) :
    c.threshold ≤ min n (2 ^ c.cw - 1) ↔ c.threshold ≤ n := by
  simp [(Config.threshold_of_legal hlegal).2]

end

/-- In both measuring states a tick with the clock high counts. -/
theorem step_of_count {s : State} {d : Bool} (h : s.tickAt sSyncMeas true d ∨ s.tickAt sBitMeas true d) :
    step s = .next (s.ticked { s.regs with dur := countDur s.cfg s.regs.dur }) := by
  obtain h | h := h
  · exact h.syncMeasCount.2
  · exact h.bitMeasCount.2

/-- Settles O8: the count below saturation, and at it, where the count and the true length are both past THRESHOLD. -/
theorem countingOperationsSaturate : Obligations.CountingOperationsSaturate := by
  refine ⟨fun s => exec_syncMeasCount, fun s => exec_bitMeasCount, fun s d h => h.syncMeasCount.1,
    fun s d h => h.bitMeasCount.1, fun s d h => ?_⟩
  have hlegal : s.cfg.legal = true := h.elim State.tickAt.legal State.tickAt.legal
  have hcount := toNat_countDur_of_lt (dur := s.regs.dur) hlegal
  have hstay := countDur_of_le (c := s.cfg) (dur := s.regs.dur)
  refine ⟨countDur s.cfg s.regs.dur, step_of_count h, hcount, hstay, ?_⟩
  obtain hlt | hle := lt_or_ge s.regs.dur.toNat (2 ^ s.cfg.cw - 1)
  · rw [hcount hlt]
  · have hthreshold := (Config.threshold_of_legal hlegal).2
    rw [hstay hle]
    omega

/-! #### Runs of ticks -/

/-- The state after `n` ticks that leave the registers `r` and the stimulus `l`, and produce no event. -/
def State.ranTicks (s : State) (n : ℕ) (r : Regs) (l : List Pins) : State :=
  { s with regs := r, stimulus := l, edge := s.edge + n, tickNo := s.tickNo + n }

section
variable {s t : State} {n m : ℕ} {r q : Regs} {l k : List Pins} {p : Pins}

theorem ranTicks_zero (h : s.stimulus = l) : s.ranTicks 0 s.regs l = s := by
  subst h
  rfl

theorem ranTicks_ranTicks : (s.ranTicks n r l).ranTicks m q k = s.ranTicks (n + m) q k := by
  simp [State.ranTicks, Nat.add_assoc]

/-- One tick is a run of one. -/
theorem ticked_eq_ranTicks (h : s.stimulus = p :: l) : s.ticked r = s.ranTicks 1 r l := by
  rw [State.ticked, h]
  rfl

/-- A run of ticks and a further run of ticks are one run. -/
theorem run_ranTicks_trans (h : Host.Core.run core n s = .next (s.ranTicks n r l))
    (h' : Host.Core.run core m (s.ranTicks n r l) = .next ((s.ranTicks n r l).ranTicks m q k)) :
    Host.Core.run core (n + m) s = .next (s.ranTicks (n + m) q k) := by
  rw [run_add_of_run h, h', ranTicks_ranTicks]

/-- A run of ticks ends with one step more. -/
theorem run_ranTicks_step (h : Host.Core.run core n s = .next (s.ranTicks n r l))
    (h' : step (s.ranTicks n r l) = .next t) : Host.Core.run core (n + 1) s = .next t := by
  rw [run_add_of_run h, run_succ_of_step h', run_zero]

/-- A run of ticks begins with one step. -/
theorem run_of_step_ticked (hstim : s.stimulus = p :: l) (h : step s = .next (s.ticked r))
    (h' : Host.Core.run core n (s.ranTicks 1 r l) = .next ((s.ranTicks 1 r l).ranTicks n q k)) :
    Host.Core.run core (n + 1) s = .next (s.ranTicks (n + 1) q k) := by
  rw [ticked_eq_ranTicks hstim] at h
  rw [run_succ_of_step h, h', ranTicks_ranTicks, Nat.add_comm]

/-- The tick written down as the next one. -/
theorem tickAt_of_stimulus {code : BitVec 4} {c d : Bool} (hlegal : s.cfg.legal = true) (hstate : s.regs.state = code)
    (hstim : s.stimulus = tickPins c d :: l) : s.tickAt code c d :=
  ⟨hlegal, pins_of_stimulus hstim, hstate⟩

/-- The tick after a run of ticks. -/
theorem tickAt_ranTicks {c d : Bool} (hlegal : s.cfg.legal = true) :
    (s.ranTicks n r (tickPins c d :: l)).tickAt r.state c d :=
  tickAt_of_stimulus hlegal rfl rfl

end

/-- A waiting state waits through any number of ticks (70_reset_and_hazards.md R154). -/
theorem run_of_waitsAt {c : Bool} {i : Instr} (ds : List Bool) {l : List Pins} {s : State} (hlegal : s.cfg.legal = true)
    (hwait : WaitsAt s.regs.state c i) (hstim : s.stimulus = ds.map (tickPins c) ++ l) :
    Host.Core.run core ds.length s = .next (s.ranTicks ds.length s.regs l) := by
  induction ds generalizing s with
  | nil => exact congrArg Host.Outcome.next (ranTicks_zero hstim).symm
  | cons d ds ih =>
    have hstep := ((tickAt_of_stimulus hlegal rfl hstim).waits hwait).2
    exact run_of_step_ticked hstim hstep (ih hlegal hwait rfl)

/-- A measuring state counts the ticks of a pulse, however many (R85, 41_word_receiver.md R94). -/
theorem run_of_pulse (ds : List Bool) {l : List Pins} {s : State} (hlegal : s.cfg.legal = true)
    (hmeas : s.regs.state = sSyncMeas ∨ s.regs.state = sBitMeas) (hstim : s.stimulus = ds.map (tickPins true) ++ l) :
    Host.Core.run core ds.length s =
      .next (s.ranTicks ds.length { s.regs with dur := (countDur s.cfg)^[ds.length] s.regs.dur } l) := by
  induction ds generalizing s with
  | nil => exact congrArg Host.Outcome.next (ranTicks_zero hstim).symm
  | cons d ds ih =>
    have htick : s.tickAt sSyncMeas true d ∨ s.tickAt sBitMeas true d :=
      hmeas.imp (tickAt_of_stimulus hlegal · hstim) (tickAt_of_stimulus hlegal · hstim)
    exact run_of_step_ticked hstim (step_of_count htick) (ih hlegal hmeas rfl)

/-- Settles O41: DUR is the saturated sum, and saturation is harmless because THRESHOLD fits in CW bits. -/
theorem pulsesAreCountedWithHarmlessSaturation : Obligations.PulsesAreCountedWithHarmlessSaturation := by
  intro s ds l hlegal hmeas hdur hstim
  have hcount := toNat_countDur_iterate hlegal hdur ds.length
  refine ⟨(countDur s.cfg)^[ds.length] s.regs.dur, hcount, ?_, run_of_pulse ds hlegal hmeas hstim⟩
  rw [hcount, threshold_le_min_iff hlegal]

/-! #### What the synchronizer does with a pulse (R88) -/

/-- Up to the low tick that ends it, a pulse in S_SYNC_WAIT leaves its count in DUR and changes nothing else but STATE; the
count is past THRESHOLD exactly when the pulse is. -/
theorem run_of_candidate {s : State} {lows highs : List Bool} {l : List Pins} (hlegal : s.cfg.legal = true)
    (hstate : s.regs.state = sSyncWait) (hhighs : highs ≠ [])
    (hstim : s.stimulus = lows.map (tickPins false) ++ (highs.map (tickPins true) ++ l)) :
    ∃ v : BitVec 32, (s.cfg.threshold ≤ v.toNat ↔ s.cfg.threshold ≤ highs.length) ∧
      Host.Core.run core (lows.length + highs.length) s =
        .next (s.ranTicks (lows.length + highs.length) { s.regs with dur := v, state := sSyncMeas } l) := by
  obtain ⟨h, hs, rfl⟩ := List.exists_cons_of_ne_nil hhighs
  have hwaited := run_of_waitsAt lows hlegal (hstate.symm ▸ WaitsAt.syncWait) hstim
  have htick : (s.ranTicks lows.length s.regs ((h :: hs).map (tickPins true) ++ l)).tickAt sSyncWait true h :=
    tickAt_of_stimulus hlegal hstate rfl
  have hrise := htick.syncWaitRise.2
  have hpulse := run_of_step_ticked rfl hrise (run_of_pulse hs hlegal (.inl rfl) rfl)
  refine ⟨(countDur s.cfg)^[hs.length] 1#32, ?_, run_ranTicks_trans hwaited hpulse⟩
  have hone : (1#32).toNat ≤ 2 ^ s.cfg.cw - 1 := by
    have := Config.cw_pow_of_legal hlegal
    simp only [BitVec.toNat_ofNat]
    omega
  rw [toNat_countDur_iterate hlegal hone, threshold_le_min_iff hlegal]
  simp [Nat.add_comm]

/-- Settles O43: the low tick that ends the pulse compares the count with THRESHOLD; after a short pulse the next tick is
S_DISCARD's, and the one after it S_SYNC_ARM's. -/
theorem synchroniserClassifiesEveryPulse : Obligations.SynchroniserClassifiesEveryPulse := by
  intro s lows highs d l hlegal hregs hhighs hstim n
  obtain ⟨v, hv, hcounted⟩ := run_of_candidate hlegal (congrArg Regs.state hregs) hhighs hstim
  rw [hregs] at hcounted
  have hend : (s.ranTicks (lows.length + highs.length) { Regs.reset with state := sSyncMeas, dur := v }
      (tickPins false d :: l)).tickAt sSyncMeas false d := tickAt_ranTicks hlegal
  refine ⟨⟨_, hcounted, rfl, ?_⟩, fun hmark => ?_, fun hmark => ?_⟩
  · split
    case isTrue hmark => exact (hend.syncMeasAccept (hv.2 hmark)).1
    case isFalse hmark => exact (hend.syncMeasShort (not_le.1 (mt hv.1 hmark))).1
  · exact run_ranTicks_step hcounted (hend.syncMeasAccept (hv.2 hmark)).2
  · have hshort : Host.Core.run core n s =
        .next (s.ranTicks n { Regs.reset with state := sDiscard, err := 0b001#3 } l) := by
      have herr : 0b001#3 = Regs.reset.err ||| 0b001#3 := rfl
      rw [herr]
      exact run_ranTicks_step hcounted (hend.syncMeasShort (not_le.1 (mt hv.1 hmark.not_ge))).2
    have hreport (c' d' : Bool) (l' : List Pins) (hl : l = tickPins c' d' :: l') : Host.Core.run core (n + 1) s =
        .next { s.ranTicks (n + 1) Regs.reset l' with
          events := s.events ++ [⟨s.tickNo + n, .discard 0b001#3⟩] } := by
      subst hl
      exact run_ranTicks_step hshort (tickAt_ranTicks hlegal).discard.2
    refine ⟨hshort, hreport, fun c' d' d'' l' hl => ?_⟩
    have harm : State.tickAt { s.ranTicks (n + 1) Regs.reset (tickPins false d'' :: l') with
        events := s.events ++ [⟨s.tickNo + n, .discard 0b001#3⟩] } sSyncArm false d'' := ⟨hlegal, rfl, rfl⟩
    rw [run_add_of_run (n := 1) (hreport c' d' _ hl)]
    exact run_succ_of_step harm.syncArmGo.2

end Sys2Proof.Machine

/-! ### Word receiver (spec/41_word_receiver.md): its operations, and words of any length and timing -/

namespace Sys2Proof.Machine

/-! #### The operations at a tick (R90, R93, R95 to R99) -/

section
variable {s : State} {d : Bool}

/-- ACC after a sampled bit (R90; the cut is log 5). -/
def sampledAcc (c : Config) (r : Regs) (d : Bool) : BitVec 63 :=
  if d then BitVec.ofNat 63 ((r.acc.toNat + r.weight.toNat) % 2 ^ c.maxDoublings) else r.acc

/-- With ACC below the bit-weight, and the bit-weight below the safety bound, nothing is cut (R90). -/
theorem toNat_sampledAcc {c : Config} {r : Regs} {n : ℕ} (hlegal : c.legal = true) (hn : n < c.maxDoublings)
    (hweight : r.weight.toNat = 2 ^ n) (hacc : r.acc.toNat < 2 ^ n) (d : Bool) :
    (sampledAcc c r d).toNat = 2 ^ n * d.toNat + r.acc.toNat := by
  cases d with
  | false => simp [sampledAcc]
  | true =>
    have hmax := (Config.maxDoublings_of_legal hlegal).2
    have hfit : 2 ^ (n + 1) ≤ 2 ^ c.maxDoublings := Nat.pow_le_pow_right two_pos hn
    have hwidth : 2 ^ c.maxDoublings ≤ 2 ^ 63 := Nat.pow_le_pow_right two_pos hmax
    rw [pow_succ] at hfit
    rw [sampledAcc, if_pos rfl, hweight, Nat.mod_eq_of_lt (by omega), BitVec.toNat_ofNat, Nat.mod_eq_of_lt (by omega)]
    simp [Nat.add_comm]

theorem State.tickAt.bitSampleOk (h : s.tickAt sBitSample false d) :
    decode s.sel s.guards = .ok (.bitSampleOk d) ∧
      step s = .next (s.ticked { s.regs with acc := sampledAcc s.cfg s.regs d, state := sBitWait }) := by
  obtain ⟨-, -, hsample⟩ := sampleAddsTheWeightWhenDataIsHigh
  exact hsample s d h

/-- The bit-weight of R93 has room to double. -/
theorem two_mul_weight_le (hlegal : s.cfg.legal = true) (hle : s.regs.weight.toNat ≤ 2 ^ (s.cfg.maxDoublings - 1)) :
    2 * s.regs.weight.toNat ≤ 2 ^ s.cfg.maxDoublings := by
  obtain ⟨hmin, -⟩ := Config.maxDoublings_of_legal hlegal
  have hpow : 2 ^ s.cfg.maxDoublings = 2 ^ (s.cfg.maxDoublings - 1) * 2 := by rw [← pow_succ]; congr 1; omega
  omega

theorem toNat_two_mul_weight (hlegal : s.cfg.legal = true) (hle : s.regs.weight.toNat ≤ 2 ^ (s.cfg.maxDoublings - 1)) :
    (BitVec.ofNat 64 (2 * s.regs.weight.toNat)).toNat = 2 * s.regs.weight.toNat := by
  have hfit := two_mul_weight_le hlegal hle
  have hwidth : 2 ^ s.cfg.maxDoublings < 2 ^ 64 :=
    Nat.pow_lt_pow_right one_lt_two (by have := Config.maxDoublings_of_legal hlegal; omega)
  rw [BitVec.toNat_ofNat, Nat.mod_eq_of_lt (hfit.trans_lt hwidth)]

theorem exec_bitWaitRise (hlegal : s.cfg.legal = true) (hle : s.regs.weight.toNat ≤ 2 ^ (s.cfg.maxDoublings - 1)) :
    exec .bitWaitRise s = .next { s with regs := { s.regs with
      weight := BitVec.ofNat 64 (2 * s.regs.weight.toNat), dur := 1#32, state := sBitMeas } } := by
  have hfit := two_mul_weight_le hlegal hle
  have hweight := setWeight_eq_of_lt s (2 * s.regs.weight.toNat)
    (hfit.trans_lt (Nat.pow_lt_pow_succ one_lt_two))
  calc exec .bitWaitRise s
      = .next (((s.setWeight (2 * s.regs.weight.toNat)).setDur 1).setState sBitMeas) := rfl
    _ = _ := by rw [setDur_one (by exact hlegal), hweight]; rfl

theorem State.tickAt.bitWaitRise (h : s.tickAt sBitWait true d)
    (hle : s.regs.weight.toNat ≤ 2 ^ (s.cfg.maxDoublings - 1)) :
    decode s.sel s.guards = .ok .bitWaitRise ∧
      step s = .next (s.ticked { s.regs with
        weight := BitVec.ofNat 64 (2 * s.regs.weight.toNat), dur := 1#32, state := sBitMeas }) :=
  h.runs (.bitWaitRise h.state h.clkIn) (exec_bitWaitRise h.legal hle)

theorem exec_bitMeasNext (s : State) :
    exec .bitMeasNext s = .next { s with regs := { s.regs with dur := 0#32, state := sBitSample } } :=
  congrArg (fun u : State => Host.Outcome.next (u.setState sBitSample)) (setDur_zero s)

theorem State.tickAt.bitMeasNext (h : s.tickAt sBitMeas false d) (hmark : s.regs.dur.toNat < s.cfg.threshold)
    (hbound : s.regs.weight.toNat ≠ 2 ^ s.cfg.maxDoublings) :
    decode s.sel s.guards = .ok .bitMeasNext ∧
      step s = .next (s.ticked { s.regs with dur := 0#32, state := sBitSample }) :=
  h.runs (.bitMeasNext h.state h.clkIn hmark hbound) (exec_bitMeasNext s)

theorem exec_bitMeasWord0 (s : State) : exec .bitMeasWord0 s = .next { s with regs := { s.regs with
    raw0 := lowWord s.regs.acc, acc := 0#63, weight := 1#64, dur := 0#32, widx := 1#1, state := sBitSample } } :=
  congrArg (fun u : State => Host.Outcome.next ((u.setWidx 1#1).setState sBitSample))
    (beginWord_eq (s.setRaw0 (lowWord s.regs.acc)))

theorem exec_bitMeasWord1 (s : State) : exec .bitMeasWord1 s = .next { s with regs := { s.regs with
    raw1 := lowWord s.regs.acc, acc := 0#63, weight := 1#64, dur := 0#32, state := sConvert } } :=
  congrArg (fun u : State => Host.Outcome.next (u.setState sConvert)) (beginWord_eq (s.setRaw1 (lowWord s.regs.acc)))

/-- R7 makes 24 the LEN guard's word length. -/
theorem State.tickAt.wordBits {code : BitVec 4} {c : Bool} (h : s.tickAt code c d) : s.cfg.wordBits = 24 :=
  Config.wordBits_of_legal h.legal

theorem State.tickAt.bitMeasWord0 (h : s.tickAt sBitMeas false d) (hmark : s.cfg.threshold ≤ s.regs.dur.toNat)
    (hlen : s.regs.weight.toNat = 2 ^ 24) (hw : s.regs.widx = 0#1) :
    decode s.sel s.guards = .ok .bitMeasWord0 ∧
      step s = .next (s.ticked { s.regs with
        raw0 := lowWord s.regs.acc, acc := 0#63, weight := 1#64, dur := 0#32, widx := 1#1, state := sBitSample }) :=
  h.runs (.bitMeasWord0 h.state h.clkIn hmark (by rw [h.wordBits, hlen]) hw) (exec_bitMeasWord0 s)

theorem State.tickAt.bitMeasWord1 (h : s.tickAt sBitMeas false d) (hmark : s.cfg.threshold ≤ s.regs.dur.toNat)
    (hlen : s.regs.weight.toNat = 2 ^ 24) (hw : s.regs.widx = 1#1) :
    decode s.sel s.guards = .ok .bitMeasWord1 ∧
      step s = .next (s.ticked { s.regs with
        raw1 := lowWord s.regs.acc, acc := 0#63, weight := 1#64, dur := 0#32, state := sConvert }) :=
  h.runs (.bitMeasWord1 h.state h.clkIn hmark (by rw [h.wordBits, hlen]) hw) (exec_bitMeasWord1 s)

theorem State.tickAt.bitMeasBound (h : s.tickAt sBitMeas false d) (hmark : s.regs.dur.toNat < s.cfg.threshold)
    (hbound : s.regs.weight.toNat = 2 ^ s.cfg.maxDoublings) :
    decode s.sel s.guards = .ok .bitMeasBound ∧
      step s = .next (s.ticked { s.regs with err := s.regs.err ||| 0b100#3, dur := 0#32, state := sDiscard }) :=
  h.runs (.bitMeasBound h.state h.clkIn hmark hbound) (exec_bitMeasBound s)

theorem State.tickAt.bitMeasBadlen (h : s.tickAt sBitMeas false d) (hmark : s.cfg.threshold ≤ s.regs.dur.toNat)
    (hlen : s.regs.weight.toNat ≠ 2 ^ 24) :
    decode s.sel s.guards = .ok .bitMeasBadlen ∧
      step s = .next (s.ticked { s.regs with err := s.regs.err ||| 0b100#3, dur := 0#32, state := sDiscard }) :=
  h.runs (.bitMeasBadlen h.state h.clkIn hmark (by rwa [h.wordBits])) (exec_bitMeasBadlen s)

end

/-- Settles O7: a bit-weight of at most half the safety bound doubles inside 64 bits and inside its configured width. -/
theorem riseInWordDoublesTheWeight : Obligations.RiseInWordDoublesTheWeight := by
  refine ⟨fun s hlegal hle => ?_, fun s d h hle => ?_⟩
  · have hdouble := toNat_two_mul_weight hlegal hle
    exact ⟨_, hdouble, hdouble.trans_le (two_mul_weight_le hlegal hle), exec_bitWaitRise hlegal hle⟩
  · obtain ⟨hdec, hstep⟩ := h.bitWaitRise hle
    have hdouble := toNat_two_mul_weight h.legal hle
    exact ⟨hdec, _, hdouble, hdouble.trans_le (two_mul_weight_le h.legal hle), hstep⟩

/-- Settles O13: the two guards select BIT.MEAS.NEXT, which clears DUR. -/
theorem shortPulseGoesOnToTheNextBit : Obligations.ShortPulseGoesOnToTheNextBit :=
  ⟨exec_bitMeasNext, fun _ _ h => h.bitMeasNext⟩

/-- Settles O14: both operations store the low word and begin a word; the invariant of S_BIT_MEAS keeps ACC below
2^24 there. -/
theorem markerAfterTwentyFourBitsStoresTheWord : Obligations.MarkerAfterTwentyFourBitsStoresTheWord := by
  refine ⟨exec_bitMeasWord0, exec_bitMeasWord1, fun s d h => h.bitMeasWord0, fun s d h => h.bitMeasWord1,
    fun s hinv hstate hlen => ?_⟩
  obtain ⟨-, hacc, -⟩ := hinv.pulse hstate
  exact toNat_lowWord (hlen ▸ hacc)

/-- Settles O12: below the bit-weight 2^NBITS, ACC has no bit from NBITS on, so that the sum is the bitwise or and moves no
other bit. -/
theorem sampledBitLandsInItsPlace : Obligations.SampledBitLandsInItsPlace := by
  intro s d n hinv h hweight
  obtain ⟨⟨m, hm, hpow⟩, hacc, -⟩ := hinv.sampling h.state
  obtain rfl : m = n := Nat.pow_right_injective le_rfl (hpow.symm.trans hweight)
  rw [hweight] at hacc
  have hmax := Config.maxDoublings_of_legal h.legal
  have hsum := toNat_sampledAcc h.legal (by omega) hweight hacc d
  have hor : (sampledAcc s.cfg s.regs d).toNat = 2 ^ m * d.toNat ||| s.regs.acc.toNat := by
    rw [hsum, Nat.two_pow_add_eq_or_of_lt hacc]
  have hbit : 2 ^ m * d.toNat = if d then 2 ^ m else 0 := by cases d <;> simp
  have hfit : 2 ^ (m + 1) ≤ 2 ^ s.cfg.maxDoublings := Nat.pow_le_pow_right two_pos (by omega)
  have hfree := Nat.testBit_lt_two_pow hacc
  refine ⟨h.bitSampleOk.1, _, h.bitSampleOk.2, ?_, hfree, fun j => ?_, ?_, ?_⟩
  · have := Nat.mul_le_mul_left (2 ^ m) d.toNat_le
    rw [pow_succ] at hfit
    omega
  · rw [hor, hbit, Nat.testBit_or]
    by_cases hj : j = m
    · subst hj
      cases d <;> simp [hfree]
    · cases d <;> simp [hj, Ne.symm hj]
  · rw [hsum, hbit, Nat.add_comm]
  · rw [hor, hbit, hweight, Nat.or_comm]

/-! #### One bit cell (R90 to R95) -/

/-- DUR after a pulse of `k` ticks, from its first tick on (R93, R94). -/
def pulseDur (c : Config) (k : ℕ) : BitVec 32 := (countDur c)^[k - 1] 1#32

/-- The count of a pulse is past THRESHOLD exactly when the pulse is. -/
theorem threshold_le_pulseDur_iff {c : Config} {k : ℕ} (hlegal : c.legal = true) (hk : 1 ≤ k) :
    c.threshold ≤ (pulseDur c k).toNat ↔ c.threshold ≤ k := by
  have hcw := Config.cw_pow_of_legal hlegal
  have hone : (1#32).toNat = 1 := rfl
  rw [pulseDur, toNat_countDur_iterate hlegal (by omega), threshold_le_min_iff hlegal, hone, Nat.add_sub_of_le hk]

/-- The registers when `n` bits of `v` have been gathered: ACC holds them, and the bit-weight is theirs (10_state.md R36). -/
def Regs.gathered (r : Regs) (v n : ℕ) : Regs :=
  { r with acc := BitVec.ofNat 63 (v % 2 ^ n), weight := BitVec.ofNat 64 (2 ^ n) }

/-- The registers when `n` bits of `v` have been gathered and the pulse that closes the last cell has lasted `k` ticks. -/
def Regs.pulsed (r : Regs) (c : Config) (v n k : ℕ) : Regs :=
  { r.gathered v n with dur := pulseDur c k, state := sBitMeas }

section
variable {r : Regs} {c : Config} {v n : ℕ}

theorem toNat_gathered_acc (hn : n ≤ 63) : (r.gathered v n).acc.toNat = v % 2 ^ n := by
  have hlt := Nat.mod_lt v (Nat.two_pow_pos n)
  exact Nat.mod_eq_of_lt (hlt.trans_le (Nat.pow_le_pow_right two_pos hn))

theorem toNat_gathered_weight (hn : n ≤ 63) : (r.gathered v n).weight.toNat = 2 ^ n :=
  Nat.mod_eq_of_lt (Nat.pow_lt_pow_right one_lt_two (by omega))

theorem toNat_pulsed_weight {k : ℕ} (hn : n ≤ 63) : (r.pulsed c v n k).weight.toNat = 2 ^ n :=
  toNat_gathered_weight (r := r) (v := v) hn

theorem pulsed_weight_ne {k m : ℕ} (hn : n ≤ 63) (hne : n ≠ m) : (r.pulsed c v n k).weight.toNat ≠ 2 ^ m := by
  rw [toNat_pulsed_weight hn]
  exact (Nat.pow_right_injective le_rfl).ne hne

theorem threshold_le_pulsed_dur {k : ℕ} (hlegal : c.legal = true) (hk : c.threshold ≤ k) :
    c.threshold ≤ (r.pulsed c v n k).dur.toNat :=
  (threshold_le_pulseDur_iff hlegal (by have := Config.threshold_of_legal hlegal; omega)).2 hk

theorem pulsed_dur_lt_threshold {k : ℕ} (hlegal : c.legal = true) (hpulse : 1 ≤ k) (hbelow : k < c.threshold) :
    (r.pulsed c v n k).dur.toNat < c.threshold :=
  not_le.1 (mt (threshold_le_pulseDur_iff hlegal hpulse).1 hbelow.not_ge)

/-- The low word of ACC is all 24 bits of a word (R97). -/
theorem lowWord_gathered : lowWord (r.gathered v 24).acc = BitVec.ofNat 24 v := by
  have hacc : (r.gathered v 24).acc.toNat = v % 2 ^ 24 := toNat_gathered_acc (by decide)
  refine BitVec.eq_of_toNat_eq ?_
  rw [toNat_lowWord (hacc ▸ Nat.mod_lt v (Nat.two_pow_pos 24)), hacc, BitVec.toNat_ofNat]

/-- At the entry of a word no bit has been gathered (R89). -/
theorem gathered_zero (hacc : r.acc = 0#63) (hweight : r.weight = 1#64) : r.gathered v 0 = r :=
  Regs.ext rfl rfl (by rw [hacc, Regs.gathered, pow_zero, Nat.mod_one]) hweight.symm rfl rfl rfl rfl rfl rfl

/-- Sampling the next bit of `v` gathers it (R90). -/
theorem sampledAcc_gathered (hlegal : c.legal = true) (hn : n < c.maxDoublings) :
    sampledAcc c (r.gathered v n) (v.testBit n) = (r.gathered v (n + 1)).acc := by
  have hmax := (Config.maxDoublings_of_legal hlegal).2
  have hacc : (r.gathered v n).acc.toNat = v % 2 ^ n := toNat_gathered_acc (by omega)
  refine BitVec.eq_of_toNat_eq ?_
  rw [toNat_sampledAcc hlegal hn (toNat_gathered_weight (by omega)) (hacc ▸ Nat.mod_lt v (Nat.two_pow_pos n)), hacc,
    toNat_gathered_acc (by omega), Nat.mod_pow_succ, Nat.toNat_testBit, Nat.add_comm]

/-- The rise that follows doubles the bit-weight (R93). -/
theorem two_mul_gathered_weight (hn : n ≤ 63) :
    BitVec.ofNat 64 (2 * (r.gathered v n).weight.toNat) = (r.gathered v (n + 1)).weight := by
  rw [toNat_gathered_weight hn, ← pow_succ']
  rfl

end

section
variable {s : State} {r : Regs} {v n : ℕ} {x : Cell} {l : List Pins}

/-- After the sampling instant, up to the low tick that ends it, a pulse in S_BIT_WAIT doubles the bit-weight, leaves its
count in DUR and changes nothing else but STATE. -/
theorem run_of_low_and_pulse {lows highs : List Bool} (hlegal : s.cfg.legal = true) (hstate : s.regs.state = sBitWait)
    (hle : s.regs.weight.toNat ≤ 2 ^ (s.cfg.maxDoublings - 1)) (hhighs : highs ≠ [])
    (hstim : s.stimulus = lows.map (tickPins false) ++ (highs.map (tickPins true) ++ l)) :
    Host.Core.run core (lows.length + highs.length) s = .next (s.ranTicks (lows.length + highs.length)
      { s.regs with weight := BitVec.ofNat 64 (2 * s.regs.weight.toNat), dur := pulseDur s.cfg highs.length,
                    state := sBitMeas } l) := by
  obtain ⟨h, hs, rfl⟩ := List.exists_cons_of_ne_nil hhighs
  have hwaited := run_of_waitsAt lows hlegal (hstate.symm ▸ WaitsAt.bitWait) hstim
  have htick : (s.ranTicks lows.length s.regs ((h :: hs).map (tickPins true) ++ l)).tickAt sBitWait true h :=
    tickAt_of_stimulus hlegal hstate rfl
  have hrise := (htick.bitWaitRise hle).2
  exact run_ranTicks_trans hwaited (run_of_step_ticked rfl hrise (run_of_pulse hs hlegal (.inr rfl) rfl))

theorem tail_ticks (x : Cell) : x.ticks.tail =
    tickPins false x.bit :: (x.low.map (tickPins false) ++ x.high.map (tickPins true)) := rfl

theorem length_tail_ticks (x : Cell) : x.ticks.tail.length = x.low.length + x.high.length + 1 := by
  simp [tail_ticks]

/-- The ticks of a cell from its sampling instant on, up to the low tick that ends its pulse: the next bit of `v` is
gathered, and DUR holds the count of the pulse. -/
theorem run_of_cell (hlegal : s.cfg.legal = true) (hstate : r.state = sBitSample) (hregs : s.regs = r.gathered v n)
    (hn : n < s.cfg.maxDoublings) (hbit : x.bit = v.testBit n) (hhigh : x.high ≠ [])
    (hstim : s.stimulus = x.ticks.tail ++ l) :
    Host.Core.run core x.ticks.tail.length s = .next (s.ranTicks x.ticks.tail.length
      (r.pulsed s.cfg v (n + 1) x.high.length) l) := by
  have hmax := (Config.maxDoublings_of_legal hlegal).2
  rw [tail_ticks, hbit, List.cons_append, List.append_assoc] at hstim
  have hsample := (tickAt_of_stimulus hlegal ((congrArg Regs.state hregs).trans hstate) hstim).bitSampleOk.2
  rw [hregs, sampledAcc_gathered hlegal hn] at hsample
  have hle : (r.gathered v n).weight.toNat ≤ 2 ^ (s.cfg.maxDoublings - 1) := by
    rw [toNat_gathered_weight (by omega)]
    exact Nat.pow_le_pow_right two_pos (by omega)
  have hcounted := run_of_step_ticked hstim hsample (run_of_low_and_pulse hlegal rfl hle hhigh rfl)
  rw [length_tail_ticks, hcounted]
  simp only [State.ranTicks, two_mul_gathered_weight (show n ≤ 63 by omega)]
  rfl

/-- A short pulse below the safety bound leaves the bits gathered, and the next one is awaited (R95). -/
theorem step_of_short_pulse {m k : ℕ} {d : Bool} (hlegal : s.cfg.legal = true) (hstate : r.state = sBitSample)
    (hdur : r.dur = 0#32) (hn : n < s.cfg.maxDoublings) (hpulse : 1 ≤ k) (hbelow : k < s.cfg.threshold) :
    step (s.ranTicks m (r.pulsed s.cfg v n k) (tickPins false d :: l)) =
      .next ((s.ranTicks m (r.pulsed s.cfg v n k) (tickPins false d :: l)).ticked (r.gathered v n)) := by
  have hmax := (Config.maxDoublings_of_legal hlegal).2
  have hbound : (r.pulsed s.cfg v n k).weight.toNat ≠ 2 ^ s.cfg.maxDoublings := pulsed_weight_ne (by omega) hn.ne
  have hback : r.gathered v n = { r.pulsed s.cfg v n k with dur := 0#32, state := sBitSample } := by
    rw [← hdur, ← hstate]
    rfl
  rw [hback]
  exact ((tickAt_ranTicks hlegal).bitMeasNext (pulsed_dur_lt_threshold hlegal hpulse hbelow) hbound).2

end

/-! #### Words of any length and timing (R100) -/

/-- A run of ticks ends with one tick more. -/
theorem run_ranTicks_tick {s : State} {n : ℕ} {r q q' : Regs} {p : Pins} {l : List Pins}
    (h : Host.Core.run core n s = .next (s.ranTicks n r (p :: l)))
    (h' : step (s.ranTicks n r (p :: l)) = .next ((s.ranTicks n r (p :: l)).ticked q)) (hq : q = q') :
    Host.Core.run core (n + 1) s = .next (s.ranTicks (n + 1) q' l) :=
  run_ranTicks_trans h (run_of_step_ticked rfl h' (hq ▸ run_zero _))

section
variable {x : Cell} {xs : List Cell} {v n : ℕ}

/-- The cells of a word carry its bits from `n` on when the first carries bit `n` and the others the bits after it. -/
theorem cellsCarry_cons : CellsCarry (x :: xs) (v >>> n) ↔ x.bit = v.testBit n ∧ CellsCarry xs (v >>> (n + 1)) := by
  constructor
  · refine fun h => ⟨by simpa using h 0 (Nat.succ_pos _), fun k hk => ?_⟩
    simpa [Nat.add_assoc, Nat.add_comm 1] using h (k + 1) (Nat.succ_lt_succ hk)
  · rintro ⟨hbit, hbits⟩ (_ | k) hk
    · simpa using hbit
    · simpa [Nat.add_assoc, Nat.add_comm 1] using hbits k (Nat.lt_of_succ_lt_succ hk)

/-- The cells of a word begin with a low tick, at which the pulse before them ends. -/
theorem cellTicks_append_singleton (init : List Cell) (last : Cell) : ∃ d,
    cellTicks (init ++ [last]) = tickPins false d :: (cellTicks (init ++ [last])).tail := by
  cases init with
  | nil => exact ⟨last.lead, rfl⟩
  | cons x xs => exact ⟨x.lead, rfl⟩

theorem tail_cellTicks_cons (x : Cell) (xs : List Cell) :
    (cellTicks (x :: xs)).tail = x.ticks.tail ++ cellTicks xs := rfl

end

section
variable {r : Regs} {v : ℕ} {init : List Cell} {last : Cell} {l : List Pins}

/-- Cells that carry the bits of `v` from bit `n` on, from the first sampling instant up to the low tick that ends the last
pulse, all but the last closed by short pulses and none beyond the safety bound: their bits are gathered. -/
theorem run_of_cells {s : State} {n : ℕ} (hlegal : s.cfg.legal = true) (hstate : r.state = sBitSample)
    (hdur : r.dur = 0#32) (hregs : s.regs = r.gathered v n) (hn : n + init.length < s.cfg.maxDoublings)
    (hbits : CellsCarry (init ++ [last]) (v >>> n)) (hshort : ∀ x ∈ init, x.short s.cfg) (hhigh : last.high ≠ [])
    (hstim : s.stimulus = (cellTicks (init ++ [last])).tail ++ l) :
    Host.Core.run core (cellTicks (init ++ [last])).tail.length s =
      .next (s.ranTicks (cellTicks (init ++ [last])).tail.length
        (r.pulsed s.cfg v (n + (init.length + 1)) last.high.length) l) := by
  induction init generalizing s n with
  | nil =>
    have hlast : (cellTicks ([] ++ [last])).tail = last.ticks.tail := by simp [cellTicks]
    rw [hlast] at hstim ⊢
    exact run_of_cell hlegal hstate hregs hn (cellsCarry_cons.1 hbits).1 hhigh hstim
  | cons x init ih =>
    obtain ⟨hbit, hbits⟩ := cellsCarry_cons.1 hbits
    obtain ⟨⟨hpulse, hbelow⟩, hshort⟩ := List.forall_mem_cons.1 hshort
    obtain ⟨d, hlead⟩ := cellTicks_append_singleton init last
    rw [List.length_cons] at hn
    rw [List.cons_append, tail_cellTicks_cons, List.append_assoc, hlead, List.cons_append] at hstim
    have hcell := run_of_cell hlegal hstate hregs (by omega) hbit (List.ne_nil_of_length_pos hpulse) hstim
    have hroom : n + 1 + init.length < s.cfg.maxDoublings := by omega
    have hnext := step_of_short_pulse (v := v) (m := x.ticks.tail.length) (d := d)
      (l := (cellTicks (init ++ [last])).tail ++ l) hlegal hstate hdur (show n + 1 < s.cfg.maxDoublings by omega)
      hpulse hbelow
    have hcount : (x.ticks.tail ++ cellTicks (init ++ [last])).length =
        x.ticks.tail.length + ((cellTicks (init ++ [last])).tail.length + 1) := by
      rw [List.length_append, hlead]
      rfl
    have hindex : n + ((x :: init).length + 1) = n + 1 + (init.length + 1) := by
      rw [List.length_cons]
      omega
    rw [List.cons_append, tail_cellTicks_cons, hcount, hindex]
    exact run_ranTicks_trans hcell (run_of_step_ticked rfl hnext (ih hlegal rfl hroom hbits hshort rfl))

/-- From the Word Receiver's entry state (R89): a word's bits are gathered, up to the low tick that ends its last pulse. -/
theorem run_of_word {s : State} (hlegal : s.cfg.legal = true) (hstate : s.regs.state = sBitSample)
    (hacc : s.regs.acc = 0#63) (hweight : s.regs.weight = 1#64) (hdur : s.regs.dur = 0#32)
    (hn : init.length + 1 ≤ s.cfg.maxDoublings) (hbits : CellsCarry (init ++ [last]) v)
    (hshort : ∀ x ∈ init, x.short s.cfg) (hhigh : last.high ≠ [])
    (hstim : s.stimulus = (cellTicks (init ++ [last])).tail ++ l) :
    Host.Core.run core (cellTicks (init ++ [last])).tail.length s =
      .next (s.ranTicks (cellTicks (init ++ [last])).tail.length
        (s.regs.pulsed s.cfg v (init.length + 1) last.high.length) l) := by
  have hentry : s.regs = s.regs.gathered v 0 := (gathered_zero hacc hweight).symm
  have hrun := run_of_cells hlegal hstate hdur hentry (by omega) hbits hshort hhigh hstim
  rwa [Nat.zero_add] at hrun

/-- A word on the wire takes one tick more than its ticks from the first sampling instant on. -/
theorem length_cellTicks_append_singleton (init : List Cell) (last : Cell) :
    (cellTicks (init ++ [last])).length = (cellTicks (init ++ [last])).tail.length + 1 := by
  obtain ⟨d, hlead⟩ := cellTicks_append_singleton init last
  rw [hlead]
  rfl

/-- A marker is not empty: THRESHOLD is at least 2 (R6). -/
theorem Cell.marker.high_ne_nil {c : Config} {x : Cell} (hlegal : c.legal = true) (h : x.marker c) : x.high ≠ [] := by
  have hthreshold := (Config.threshold_of_legal hlegal).1
  exact List.ne_nil_of_length_pos (two_pos.trans_le (hthreshold.trans h))

theorem Cell.short.high_ne_nil {c : Config} {x : Cell} (h : x.short c) : x.high ≠ [] :=
  List.ne_nil_of_length_pos h.1

end

/-- A well-framed word is 23 cells closed by short pulses and one closed by a marker (R62). -/
theorem WireWord.eq_append {c : Config} {cells : List Cell} {v : Raw} (h : WireWord c cells v) :
    ∃ init last, cells = init ++ [last] ∧ init.length = 23 ∧ (∀ x ∈ init, x.short c) ∧ last.marker c := by
  have hne : cells ≠ [] := List.ne_nil_of_length_pos (by rw [h.count]; decide)
  have hlength : cells.dropLast.length = 23 := by rw [List.length_dropLast, h.count]
  refine ⟨cells.dropLast, cells.getLast hne, (List.dropLast_append_getLast hne).symm, hlength, ?_, ?_⟩
  · refine List.forall_mem_iff_getElem.2 fun k hk => ?_
    rw [List.getElem_dropLast]
    exact h.shorts k _ (hlength ▸ hk)
  · have hclosing := h.closing (by rw [h.count]; decide)
    simpa [List.getLast_eq_getElem, h.count] using hclosing

/-- Settles O44: the 24 bits are gathered, and the marker's low tick stores the low word of ACC, which is all of it. -/
theorem wellFramedWordIsReceived : Obligations.WellFramedWordIsReceived := by
  intro s cells v d l hlegal hstate hacc hweight hdur hword hstim n
  obtain ⟨init, last, rfl, hinit, hshort, hmarker⟩ := hword.eq_append
  have hmax := (Config.maxDoublings_of_legal hlegal).1
  have hrun := run_of_word hlegal hstate hacc hweight hdur (by omega) hword.bits hshort
    (hmarker.high_ne_nil hlegal) hstim
  rw [hinit] at hrun
  have htick : (s.ranTicks (cellTicks (init ++ [last])).tail.length
      (s.regs.pulsed s.cfg v.toNat 24 last.high.length) (tickPins false d :: l)).tickAt sBitMeas false d :=
    tickAt_ranTicks hlegal
  have hmark := threshold_le_pulsed_dur (r := s.regs) (v := v.toNat) (n := 24) hlegal hmarker
  have hlen : (s.regs.pulsed s.cfg v.toNat 24 last.high.length).weight.toNat = 2 ^ 24 := toNat_pulsed_weight (by decide)
  have hraw : lowWord (s.regs.pulsed s.cfg v.toNat 24 last.high.length).acc = v := by
    have hlow := lowWord_gathered (r := s.regs) (v := v.toNat)
    rwa [BitVec.ofNat_toNat, BitVec.setWidth_eq] at hlow
  have hn : n = (cellTicks (init ++ [last])).tail.length + 1 := length_cellTicks_append_singleton init last
  rw [hn]
  split
  case isTrue hw =>
    exact run_ranTicks_tick hrun (htick.bitMeasWord0 hmark hlen hw).2
      (Regs.ext hstate.symm rfl hacc.symm hweight.symm hdur.symm hraw rfl rfl rfl rfl)
  case isFalse hw =>
    have hw := (BitVec.eq_zero_or_eq_one s.regs.widx).resolve_left hw
    exact run_ranTicks_tick hrun (htick.bitMeasWord1 hmark hlen hw).2
      (Regs.ext rfl rfl hacc.symm hweight.symm hdur.symm rfl hraw rfl rfl rfl)

/-- Settles O45: at the low tick that ends the last pulse the guards select BIT.MEAS.BADLEN, BIT.MEAS.BOUND or
BIT.MEAS.NEXT, none of which writes ACC or WEIGHT. -/
theorem badlyFramedWordsAreRejected : Obligations.BadlyFramedWordsAreRejected := by
  intro s init last v d l hlegal hstate hacc hweight hdur hn hbits hshort hstim n k
  have hmax := (Config.maxDoublings_of_legal hlegal).2
  have hrun := run_of_word hlegal hstate hacc hweight hdur hn hbits hshort (l := tickPins false d :: l) (last := last)
  have htick : (s.ranTicks (cellTicks (init ++ [last])).tail.length
      (s.regs.pulsed s.cfg v n last.high.length) (tickPins false d :: l)).tickAt sBitMeas false d :=
    tickAt_ranTicks hlegal
  have hlen : (s.regs.pulsed s.cfg v n last.high.length).weight.toNat = 2 ^ n := toNat_pulsed_weight (by omega)
  have hk : k = (cellTicks (init ++ [last])).tail.length + 1 := length_cellTicks_append_singleton init last
  rw [hk]
  refine ⟨(s.regs.gathered v n).acc, (s.regs.gathered v n).weight, toNat_gathered_acc (by omega),
    toNat_gathered_weight (by omega), ?_, ?_⟩
  · rintro (⟨hmarker, hcount⟩ | ⟨hlast, hbound⟩)
    · have hmark := threshold_le_pulsed_dur (r := s.regs) (v := v) (n := n) hlegal hmarker
      have hbad : (s.regs.pulsed s.cfg v n last.high.length).weight.toNat ≠ 2 ^ 24 :=
        pulsed_weight_ne (by omega) hcount
      exact run_ranTicks_tick (hrun (hmarker.high_ne_nil hlegal) hstim) (htick.bitMeasBadlen hmark hbad).2
        (Regs.ext rfl rfl rfl rfl hdur.symm rfl rfl rfl rfl rfl)
    · have hmark := pulsed_dur_lt_threshold (r := s.regs) (v := v) (n := n) hlegal hlast.1 hlast.2
      exact run_ranTicks_tick (hrun hlast.high_ne_nil hstim) (htick.bitMeasBound hmark (hbound ▸ hlen)).2
        (Regs.ext rfl rfl rfl rfl hdur.symm rfl rfl rfl rfl rfl)
  · rintro ⟨hlast, hbelow⟩
    exact run_ranTicks_tick (hrun hlast.high_ne_nil hstim)
      (step_of_short_pulse hlegal hstate hdur hbelow hlast.1 hlast.2) rfl

/-! #### `WORDN` (R78) as cells -/

/-- `BIT(b; lo, hi)` as a cell (R77), with the bit at every tick of the low phase. -/
def uniformCell (b : Bool) (lo hi : ℕ) : Cell := ⟨b, b, List.replicate (lo - 2) b, List.replicate hi false⟩

/-- The ticks of `BIT(b; lo, hi)` are those of its cell, for every legal low phase (30_encoding.md R60). -/
theorem ticks_uniformCell {b : Bool} {lo hi : ℕ} (hlo : 2 ≤ lo) :
    (uniformCell b lo hi).ticks = stimulusOf (bitCell b lo hi) := by
  obtain ⟨k, rfl⟩ := Nat.exists_eq_add_of_le' hlo
  cases b <;> simp [uniformCell, Cell.ticks, bitCell, stimulusOf, List.replicate_succ, Symbol.pins]

/-- `n` cells that carry the low bits of `v`, closed by pulses of `hi` ticks. -/
def uniformCells (v n lo hi : ℕ) : List Cell := (List.range n).map fun k => uniformCell (v.testBit k) lo hi

/-- The ticks of `WORDN(v, n + 1; lo, hi, mk)` are those of its cells. -/
theorem stimulusOf_wordN_succ {v n lo hi mk : ℕ} (hlo : 2 ≤ lo) : stimulusOf (wordN v (n + 1) lo hi mk) =
    cellTicks (uniformCells v n lo hi ++ [uniformCell (v.testBit n) lo mk]) := by
  have hcells : ((List.range n).flatMap fun k => bitCell (v.testBit k) lo hi).map Symbol.pins =
      cellTicks (uniformCells v n lo hi) := by
    simp only [uniformCells, cellTicks, List.flatMap_map, List.map_flatMap, ticks_uniformCell hlo, stimulusOf]
  have hlast : (bitCell (v.testBit n) lo mk).map Symbol.pins = cellTicks [uniformCell (v.testBit n) lo mk] := by
    simp [cellTicks, ticks_uniformCell hlo, stimulusOf]
  rw [wordN_succ, stimulusOf, List.map_append, hcells, hlast, cellTicks, cellTicks, cellTicks, List.flatMap_append]

theorem cellsCarry_uniformCells (v n lo hi mk : ℕ) :
    CellsCarry (uniformCells v n lo hi ++ [uniformCell (v.testBit n) lo mk]) v := by
  intro k hk
  rw [List.length_append, uniformCells, List.length_map, List.length_range, List.length_singleton] at hk
  obtain hlt | rfl := Nat.lt_succ_iff_lt_or_eq.1 hk
  · simp [uniformCells, uniformCell, hlt]
  · simp [uniformCells, uniformCell]

/-- A cell that is entered at its first tick already sampling: one low tick more after the sampling instant. -/
def Cell.late (x : Cell) : Cell := { x with low := x.bit :: x.low }

theorem tail_ticks_late {x : Cell} (h : x.lead = x.bit) : x.late.ticks.tail = x.ticks := by
  have hlate : x.late.ticks.tail = tickPins false x.bit :: x.ticks.tail := rfl
  rw [hlate, ← h]
  rfl

theorem cellsCarry_late {x : Cell} {xs : List Cell} {v : ℕ} : CellsCarry (x.late :: xs) v ↔ CellsCarry (x :: xs) v := by
  have hfirst (y : Cell) := cellsCarry_cons (x := y) (xs := xs) (v := v) (n := 0)
  exact (hfirst x.late).trans (hfirst x).symm

/-- Cells whose first one carries its bit at its first tick too are, from there on, the ticks of cells that are entered at
the sampling instant. -/
theorem exists_late_cells {c : Config} {init : List Cell} {last : Cell} {v : ℕ}
    (hlead : ∀ x ∈ init ++ [last], x.lead = x.bit)
    (hbits : CellsCarry (init ++ [last]) v) (hshort : ∀ x ∈ init, x.short c) :
    ∃ init' last', (cellTicks (init' ++ [last'])).tail = cellTicks (init ++ [last]) ∧ init'.length = init.length ∧
      last'.high = last.high ∧ CellsCarry (init' ++ [last']) v ∧ ∀ x ∈ init', x.short c := by
  cases init with
  | nil =>
    have hticks := tail_ticks_late (hlead last (List.mem_singleton_self last))
    exact ⟨[], last.late, congrArg (· ++ []) hticks, rfl, rfl, cellsCarry_late.2 hbits, hshort⟩
  | cons x xs =>
    obtain ⟨hx, hxs⟩ := List.forall_mem_cons.1 hshort
    have hticks := tail_ticks_late (hlead x List.mem_cons_self)
    exact ⟨x.late :: xs, last, congrArg (· ++ cellTicks (xs ++ [last])) hticks, rfl, rfl,
      cellsCarry_late.2 hbits, List.forall_mem_cons.2 ⟨hx, hxs⟩⟩

/-- From the Word Receiver's entry state, WORDN from its first tick on: the data level of the first cell is sampled one tick
early, and it is the same. -/
theorem run_of_wordN {s : State} {v n lo hi mk : ℕ} {l : List Pins} (hlegal : s.cfg.legal = true)
    (hstate : s.regs.state = sBitSample) (hacc : s.regs.acc = 0#63) (hweight : s.regs.weight = 1#64)
    (hdur : s.regs.dur = 0#32) (hlo : 2 ≤ lo) (hhi : 1 ≤ hi) (hbelow : hi < s.cfg.threshold) (hmk : 1 ≤ mk)
    (hn : n + 1 ≤ s.cfg.maxDoublings) (hstim : s.stimulus = stimulusOf (wordN v (n + 1) lo hi mk) ++ l) :
    Host.Core.run core (wordN v (n + 1) lo hi mk).length s =
      .next (s.ranTicks (wordN v (n + 1) lo hi mk).length (s.regs.pulsed s.cfg v (n + 1) mk) l) := by
  have hlead : ∀ x ∈ uniformCells v n lo hi ++ [uniformCell (v.testBit n) lo mk], x.lead = x.bit :=
    List.forall_mem_append.2 ⟨List.forall_mem_map.2 fun _ _ => rfl, List.forall_mem_singleton.2 rfl⟩
  have hshort : ∀ x ∈ uniformCells v n lo hi, x.short s.cfg := by
    simp [uniformCells, uniformCell, Cell.short, hhi, hbelow]
  obtain ⟨init, last, hticks, hcount, hhigh, hbits, hshort⟩ :=
    exists_late_cells hlead (cellsCarry_uniformCells v n lo hi mk) hshort
  have hinit : init.length = n := by rw [hcount, uniformCells, List.length_map, List.length_range]
  have hpulse : last.high.length = mk := by rw [hhigh, uniformCell, List.length_replicate]
  have hlength : (cellTicks (init ++ [last])).tail.length = (wordN v (n + 1) lo hi mk).length := by
    rw [hticks, ← stimulusOf_wordN_succ hlo, stimulusOf, List.length_map]
  rw [stimulusOf_wordN_succ hlo, ← hticks] at hstim
  have hrun := run_of_word hlegal hstate hacc hweight hdur (by omega) hbits hshort
    (List.ne_nil_of_length_pos (by omega)) hstim
  rwa [hlength, hinit, hpulse] at hrun

/-- Settles O46: up to the low tick the word's bits are gathered and the last pulse is counted; the guards then read the
marker, the number of cells and WIDX. -/
theorem wordMacroIsClassified : Obligations.WordMacroIsClassified := by
  intro s v n lo hi mk d l hlegal hstate hacc hweight hdur hlo hhi hbelow hn hmax hstim
  obtain ⟨m, rfl⟩ := Nat.exists_eq_add_of_le' hn
  obtain ⟨-, hwidth⟩ := Config.maxDoublings_of_legal hlegal
  obtain ⟨hthreshold, -⟩ := Config.threshold_of_legal hlegal
  have htick : (s.ranTicks (wordN v (m + 1) lo hi mk).length (s.regs.pulsed s.cfg v (m + 1) mk)
      (tickPins false d :: l)).tickAt sBitMeas false d := tickAt_ranTicks hlegal
  have hlen : (s.regs.pulsed s.cfg v (m + 1) mk).weight.toNat = 2 ^ (m + 1) := toNat_pulsed_weight (by omega)
  have hrun (hmk : 1 ≤ mk) := run_of_wordN hlegal hstate hacc hweight hdur hlo hhi hbelow hmk hmax hstim
  refine ⟨fun hmarker => ?_, fun heq hbound => ?_⟩
  · have hmark := threshold_le_pulsed_dur (r := s.regs) (v := v) (n := m + 1) hlegal hmarker
    refine ⟨_, hrun (by omega), rfl, rfl, toNat_gathered_acc (r := s.regs) (by omega), hlen, ?_, fun hcount => ?_⟩
    · split
      case isTrue hcount =>
        have hlen := hlen.trans (congrArg (2 ^ ·) hcount)
        split
        case isTrue hw => exact (htick.bitMeasWord0 hmark hlen hw).1
        case isFalse hw =>
          exact (htick.bitMeasWord1 hmark hlen ((BitVec.eq_zero_or_eq_one s.regs.widx).resolve_left hw)).1
      case isFalse hcount =>
        have hbad : (s.regs.pulsed s.cfg v (m + 1) mk).weight.toNat ≠ 2 ^ 24 :=
          pulsed_weight_ne (by omega) hcount
        exact (htick.bitMeasBadlen hmark hbad).1
    · rw [hcount]
      exact lowWord_gathered (r := s.regs)
  · have hmark := pulsed_dur_lt_threshold (r := s.regs) (v := v) (n := m + 1) hlegal (heq ▸ hhi) (heq ▸ hbelow)
    exact ⟨_, hrun (heq ▸ hhi), rfl, (htick.bitMeasBound hmark (hbound ▸ hlen)).1⟩

end Sys2Proof.Machine

/-! ### Value converter (spec/42_value_converter.md): the binary64 arithmetic, rounding, and the measurements -/

namespace Sys2Proof.Machine

/-! #### Sign extension (R101) -/

/-- `sint24` is the two's-complement reading of the field. -/
theorem sint24_eq_toInt (v : Raw) : sint24 v = v.toInt := by
  rw [BitVec.toInt_eq_msb_cond, BitVec.msb_eq_getLsbD_last]
  simp [sint24]

/-- The range of a 24-bit two's-complement number. -/
theorem sint24_bounds (v : Raw) : -8388608 ≤ sint24 v ∧ sint24 v ≤ 8388607 := by
  rw [sint24_eq_toInt]
  have hlo := BitVec.le_toInt v
  have hhi := BitVec.toInt_lt (x := v)
  omega

/-- Distinct words have distinct readings. -/
theorem sint24_injective : Function.Injective sint24 := by
  intro v w h
  rw [sint24_eq_toInt, sint24_eq_toInt] at h
  exact BitVec.eq_of_toInt_eq h

/-- Settles O52: the tested bit is the sign bit of the 24-bit field. -/
theorem signExtensionIsTwosComplement : Obligations.SignExtensionIsTwosComplement := by
  refine ⟨fun v => ?_, fun v => ⟨sint24_eq_toInt v, (sint24_bounds v).1, (sint24_bounds v).2, ?_⟩, by decide⟩
  · simp only [sint24, BitVec.getLsbD, BitVec.toNat_ofNat]
  · have hfit := v.isLt
    unfold sint24
    split <;> omega

/-! #### Negation (R104) -/

/-- The bits of a negated pattern: bit 63 is the one that differs. -/
theorem getLsbD_fneg (a : F64) (j : Nat) : (fneg a).getLsbD j = if j = 63 then !a.getLsbD 63 else a.getLsbD j := by
  have hmask : (0x8000000000000000#64 : F64) = BitVec.twoPow 64 63 := by decide
  rw [fneg, hmask, BitVec.getLsbD_xor, BitVec.getLsbD_twoPow]
  by_cases hj : j = 63
  · simp [hj]
  · simp [hj, Ne.symm hj]

@[simp] theorem fneg_fneg (a : F64) : fneg (fneg a) = a := by
  rw [fneg, fneg, BitVec.xor_assoc, BitVec.xor_self, BitVec.xor_zero]

@[simp] theorem f64Sign_fneg (a : F64) : f64Sign (fneg a) = !f64Sign a := by
  rw [f64Sign, getLsbD_fneg, if_pos rfl, f64Sign]

/-- A field that ends below the sign bit is the same in a negated pattern. -/
theorem extractLsb'_fneg (a : F64) {start len : Nat} (h : start + len ≤ 63) :
    (fneg a).extractLsb' start len = a.extractLsb' start len := by
  refine BitVec.eq_of_getLsbD_eq fun i hi => ?_
  rw [BitVec.getLsbD_extractLsb', BitVec.getLsbD_extractLsb', getLsbD_fneg, if_neg (by omega)]

@[simp] theorem f64Exp_fneg (a : F64) : f64Exp (fneg a) = f64Exp a :=
  congrArg BitVec.toNat (extractLsb'_fneg a (by decide))

@[simp] theorem f64Frac_fneg (a : F64) : f64Frac (fneg a) = f64Frac a :=
  congrArg BitVec.toNat (extractLsb'_fneg a (by decide))

@[simp] theorem f64IsZero_fneg (a : F64) : f64IsZero (fneg a) = f64IsZero a := by simp [f64IsZero]

@[simp] theorem f64IsNormal_fneg (a : F64) : f64IsNormal (fneg a) = f64IsNormal a := by simp [f64IsNormal]

/-- A negated pattern denotes the negated number. -/
theorem f64Value_fneg (a : F64) : f64Value (fneg a) = -f64Value a := by
  simp only [f64Value, f64IsZero_fneg, f64Sign_fneg, f64Significand, f64Frac_fneg, f64Exp_fneg]
  split
  · exact neg_zero.symm
  · rw [← neg_mul, ← neg_mul]
    cases f64Sign a <;> simp

/-- Settles O55: the mask has bit 63 only, which is the sign, so the fields of the magnitude stay. -/
theorem negationFlipsTheSignBitOnly : Obligations.NegationFlipsTheSignBitOnly := by
  refine ⟨getLsbD_fneg, fun a ha => ⟨?_, f64Value_fneg a⟩, fneg_fneg, by decide⟩
  simpa only [f64Ok, f64IsZero_fneg, f64IsNormal_fneg] using ha

/-! #### The millimetre values of the default SCALE (R105) and CONVERT (R106) -/

/-- Settles O56: each pattern is the evaluation of R101 to R103 at one word. -/
theorem millimetreValuesOfTheDefaultScale : Obligations.MillimetreValuesOfTheDefaultScale := by
  refine ⟨fun _ _ => rfl, ?_, ?_, ?_, ?_, ?_, ?_⟩ <;> decide

/-- Settles O15: S_CONVERT selects CONVERT at any line levels, and CONVERT writes three registers. -/
theorem convertComputesBothMeasurements : Obligations.ConvertComputesBothMeasurements :=
  ⟨fun _ => rfl, fun _ _ _ h => h.runs (.convert h.state) rfl⟩

/-! #### The number a pattern denotes, as sign and magnitude (30_encoding.md R66) -/

/-- The magnitude of a normal number. -/
theorem abs_f64Value_of_normal {a : F64} (h : f64IsNormal a = true) :
    |f64Value a| = (f64Significand a : ℚ) * (2 : ℚ) ^ ((f64Exp a : ℤ) - 1075) := by
  have hmag : 0 ≤ (f64Significand a : ℚ) * (2 : ℚ) ^ ((f64Exp a : ℤ) - 1075) := by positivity
  rw [f64Value_of_normal h, mul_assoc, abs_mul, abs_of_nonneg hmag]
  cases f64Sign a <;> simp

/-- A zero of either sign denotes 0. -/
theorem f64Value_of_zero {a : F64} (h : f64IsZero a = true) : f64Value a = 0 := by
  simp [f64Value, h]

/-- A zero or normal number is its sign times its magnitude. -/
theorem f64Value_eq_sign_mul_abs {a : F64} (h : f64Ok a) :
    f64Value a = (if f64Sign a then -1 else 1) * |f64Value a| := by
  rcases h with hzero | hnormal
  · simp [f64Value_of_zero hzero]
  · rw [abs_f64Value_of_normal hnormal, f64Value_of_normal hnormal, mul_assoc]

/-- A zero or normal number other than 0 is normal. -/
theorem f64IsNormal_of_value_ne_zero {a : F64} (h : f64Ok a) (hne : f64Value a ≠ 0) : f64IsNormal a = true :=
  h.resolve_left fun hzero => hne (f64Value_of_zero hzero)

/-! #### Powers of two -/

/-- A power of two moved by a number of places. -/
theorem two_zpow_eq_mul {n : ℕ} {j e : ℤ} (h : e = n + j) : (2 : ℚ) ^ e = (2 ^ n : ℕ) * (2 : ℚ) ^ j := by
  rw [h, zpow_add₀ two_ne_zero, zpow_natCast, Nat.cast_pow, Nat.cast_two]

theorem lt_of_two_zpow_lt {i j : ℤ} (h : (2 : ℚ) ^ i < (2 : ℚ) ^ j) : i < j :=
  (zpow_lt_zpow_iff_right₀ one_lt_two).1 h

/-! #### Nearest multiples, ties to even (R103) -/

/-- `q * u` is the multiple of `u` nearest to `x`, and `q` is even where two are equally near (R103). -/
def NearestEven (x u : ℚ) (q : ℕ) : Prop :=
  |x - q * u| ≤ u / 2 ∧ (|x - q * u| = u / 2 → q % 2 = 0)

/-- `roundEven` is the rule's rounding, in units of `2 ^ sh`. -/
theorem nearestEven_roundEven (m sh : ℕ) : NearestEven m (2 ^ sh) (roundEven m sh) := by
  obtain ⟨hup, hdown, htie⟩ := roundEven_spec m sh
  have hup' : (2 : ℚ) * (roundEven m sh * 2 ^ sh) ≤ 2 * m + 2 ^ sh := by exact_mod_cast hup
  have hdown' : (2 : ℚ) * m ≤ 2 * (roundEven m sh * 2 ^ sh) + 2 ^ sh := by exact_mod_cast hdown
  refine ⟨abs_le.2 ⟨by linarith, by linarith⟩, fun hhalf => htie ?_⟩
  rcases eq_or_eq_neg_of_abs_eq hhalf with habove | hbelow
  · right
    have : (2 : ℚ) * m = 2 * (roundEven m sh * 2 ^ sh) + 2 ^ sh := by linarith
    exact_mod_cast this
  · left
    have : (2 : ℚ) * (roundEven m sh * 2 ^ sh) = 2 * m + 2 ^ sh := by linarith
    exact_mod_cast this

namespace NearestEven

variable {x u : ℚ} {p q : ℕ}

/-- A multiple of the unit is nearest to itself. -/
theorem of_multiple (hu : 0 < u) : NearestEven (p * u) u p := by
  rw [NearestEven, sub_self, abs_zero]
  exact ⟨by positivity, fun htie => absurd htie (by positivity)⟩

/-- Rounding commutes with a change of the unit. -/
theorem scale (h : NearestEven x u q) {c : ℚ} (hc : 0 < c) : NearestEven (x * c) (u * c) q := by
  have hdiff : |x * c - q * (u * c)| = |x - q * u| * c := by
    rw [← mul_assoc, ← sub_mul, abs_mul, abs_of_pos hc]
  rw [NearestEven, hdiff, mul_div_right_comm]
  exact ⟨mul_le_mul_of_nonneg_right h.1 hc.le, fun htie => h.2 (mul_right_cancel₀ hc.ne' htie)⟩

/-- Rounding does not pass below a multiple of the unit. -/
theorem le_of_le (h : NearestEven x u q) (hu : 0 < u) (hp : p * u ≤ x) : p ≤ q := by
  have hnear := (abs_le.1 h.1).2
  have hlt : (p : ℚ) * u < (q + 1 : ℕ) * u := by push_cast; linarith
  exact Nat.lt_succ_iff.1 (Nat.cast_lt.1 (lt_of_mul_lt_mul_right hlt hu.le))

/-- Rounding does not pass above a multiple of the unit. -/
theorem le_of_ge (h : NearestEven x u q) (hu : 0 < u) (hp : x ≤ p * u) : q ≤ p := by
  have hnear := (abs_le.1 h.1).1
  have hlt : (q : ℚ) * u < (p + 1 : ℕ) * u := by push_cast; linarith
  exact Nat.lt_succ_iff.1 (Nat.cast_lt.1 (lt_of_mul_lt_mul_right hlt hu.le))

end NearestEven

/-! #### Magnitudes with a binary64 rounding -/

/-- `e` is the exponent of `x`, floor(log2 x), it is one of a normal number, and `x` does not round up past the largest normal
number (R103). -/
structure Roundable (x : ℚ) (e : ℤ) : Prop where
  lo : (2 : ℚ) ^ e ≤ x
  hi : x < (2 : ℚ) ^ (e + 1)
  min : -1022 ≤ e
  max : x < 2 ^ 1024 - 2 ^ 970

/-- The pattern `f` is normal, has the given sign, and its magnitude is `x` rounded to 53 bits at the exponent `e` (R103). -/
structure RoundsTo (f : F64) (sign : Bool) (x : ℚ) (e : ℤ) : Prop where
  normal : f64IsNormal f = true
  sign : f64Sign f = sign
  magnitude : ∃ q : ℕ, |f64Value f| = q * (2 : ℚ) ^ (e - 52) ∧ NearestEven x ((2 : ℚ) ^ (e - 52)) q

/-- The bound of `Roundable` in units of 2^970: half a unit short of 2^1024. -/
theorem roundUp_bound_eq : (2 : ℚ) ^ 1024 - 2 ^ 970 = (2 ^ 54 - 1) * 2 ^ 970 := by
  rw [sub_mul, ← pow_add, one_mul]

/-- The power of two at an exponent is 2^52 units. -/
theorem two_zpow_eq_units (e : ℤ) : (2 : ℚ) ^ e = (2 ^ 52 : ℕ) * (2 : ℚ) ^ (e - 52) :=
  two_zpow_eq_mul (by omega)

/-- The next power of two is 2^53 units. -/
theorem two_zpow_succ_eq_units (e : ℤ) : (2 : ℚ) ^ (e + 1) = (2 ^ 53 : ℕ) * (2 : ℚ) ^ (e - 52) :=
  two_zpow_eq_mul (by omega)

namespace Roundable

variable {x : ℚ} {e : ℤ}

/-- Every magnitude from 2^-1022 up to the bound has its exponent. -/
theorem exists_of_bounds (hlo : (2 : ℚ) ^ (-1022 : ℤ) ≤ x) (hmax : x < 2 ^ 1024 - 2 ^ 970) : ∃ e, Roundable x e := by
  obtain ⟨e, hle, hlt⟩ := exists_mem_Ico_zpow (lt_of_lt_of_le (by positivity) hlo) (one_lt_two (α := ℚ))
  have hmin := lt_of_two_zpow_lt (hlo.trans_lt hlt)
  exact ⟨e, hle, hlt, by omega, hmax⟩

/-- The exponent of `m * 2^k` is that of `m`, moved by `k`. -/
theorem eq_log2_add {m : ℕ} {k : ℤ} (h : Roundable (m * (2 : ℚ) ^ k) e) (hm : m ≠ 0) : e = m.log2 + k := by
  have hk : (0 : ℚ) < (2 : ℚ) ^ k := by positivity
  have hlo : (2 : ℚ) ^ ((m.log2 : ℤ) + k) ≤ m * (2 : ℚ) ^ k := by
    rw [two_zpow_eq_mul rfl]
    exact mul_le_mul_of_nonneg_right (Nat.cast_le.2 (Nat.log2_self_le hm)) hk.le
  have hhi : m * (2 : ℚ) ^ k < (2 : ℚ) ^ (((m.log2 + 1 : ℕ) : ℤ) + k) := by
    rw [two_zpow_eq_mul rfl]
    exact mul_lt_mul_of_pos_right (Nat.cast_lt.2 Nat.lt_log2_self) hk
  have hle := lt_of_two_zpow_lt (hlo.trans_lt h.hi)
  have hge := lt_of_two_zpow_lt (h.lo.trans_lt hhi)
  omega

/-- The rounded significand has 53 bits, or is 2^53. -/
theorem significand_bounds {q : ℕ} (h : Roundable x e) (hq : NearestEven x ((2 : ℚ) ^ (e - 52)) q) :
    2 ^ 52 ≤ q ∧ q ≤ 2 ^ 53 :=
  have hu : (0 : ℚ) < (2 : ℚ) ^ (e - 52) := by positivity
  ⟨hq.le_of_le hu ((two_zpow_eq_units e).symm.trans_le h.lo),
    hq.le_of_ge hu (h.hi.le.trans_eq (two_zpow_succ_eq_units e))⟩

/-- The exponent is one of a normal number. -/
theorem exp_le (h : Roundable x e) : e ≤ 1023 := by
  have hlt : (2 : ℚ) ^ e < (2 : ℚ) ^ (1024 : ℤ) :=
    h.lo.trans_lt (h.max.trans (sub_lt_self _ (by positivity)))
  have := lt_of_two_zpow_lt hlt
  omega

/-- A significand that rounds up to 2^53 leaves room for the next exponent: at 1023 it would pass the largest number. -/
theorem exp_lt_of_carry (h : Roundable x e) (hq : NearestEven x ((2 : ℚ) ^ (e - 52)) (2 ^ 53)) : e < 1023 := by
  refine lt_of_le_of_ne h.exp_le fun he => ?_
  have hnear := (abs_le.1 hq.1).1
  have hmax := h.max
  have hunit : (2 : ℚ) ^ (e - 52) = 2 * 2 ^ 970 := by
    rw [he, ← pow_succ']
    rfl
  rw [roundUp_bound_eq] at hmax
  rw [hunit] at hnear
  push_cast at hnear
  generalize (2 : ℚ) ^ 970 = y at hnear hmax
  linarith

end Roundable

/-! #### Rounding an exact magnitude (R103) -/

/-- The significand that `roundMagnitude` computes, before a carry, is the rule's. -/
theorem roundMagnitude_eq {m : ℕ} {k e : ℤ} (he : e = m.log2 + k) :
    ∃ q : ℕ, NearestEven (m * (2 : ℚ) ^ k) ((2 : ℚ) ^ (e - 52)) q ∧
      roundMagnitude m k = if q = 2 ^ 53 then (2 ^ 52, e + 1) else (q, e) := by
  subst he
  refine ⟨_, ?_, rfl⟩
  split
  case isTrue hsmall =>
    have hunits : (m : ℚ) * (2 : ℚ) ^ k =
        (m * 2 ^ (52 - m.log2) : ℕ) * (2 : ℚ) ^ ((m.log2 : ℤ) + k - 52) := by
      rw [two_zpow_eq_mul (n := 52 - m.log2) (j := m.log2 + k - 52) (e := k) (by omega), Nat.cast_mul, mul_assoc]
    rw [hunits]
    exact .of_multiple (by positivity)
  case isFalse hlarge =>
    rw [two_zpow_eq_mul (n := m.log2 - 52) (j := k) (e := m.log2 + k - 52) (by omega), Nat.cast_pow, Nat.cast_two]
    exact (nearestEven_roundEven m _).scale (by positivity)

/-- A packed pattern with a normal exponent and a significand of 53 bits: its class, its sign and its magnitude. -/
theorem f64Pack_normal (sign : Bool) {q : ℕ} {e : ℤ} (hq : 2 ^ 52 ≤ q) (hq' : q < 2 ^ 53) (he : -1022 ≤ e)
    (he' : e ≤ 1023) :
    f64IsNormal (f64Pack sign (e + 1023).toNat (q - 2 ^ 52)) = true ∧
      |f64Value (f64Pack sign (e + 1023).toNat (q - 2 ^ 52))| = q * (2 : ℚ) ^ (e - 52) := by
  have hexp : f64Exp (f64Pack sign (e + 1023).toNat (q - 2 ^ 52)) = (e + 1023).toNat := by
    rw [f64Exp_f64Pack]
    omega
  have hsig : f64Significand (f64Pack sign (e + 1023).toNat (q - 2 ^ 52)) = q := by
    rw [f64Significand, f64Frac_f64Pack]
    omega
  have hnormal : f64IsNormal (f64Pack sign (e + 1023).toNat (q - 2 ^ 52)) = true := by
    simp only [f64IsNormal, hexp, Bool.and_eq_true, decide_eq_true_eq]
    omega
  refine ⟨hnormal, ?_⟩
  rw [abs_f64Value_of_normal hnormal, hexp, hsig]
  congr 2
  omega

/-- A magnitude in the normal range is rounded as the rule says. -/
theorem roundToF64_roundsTo (sign : Bool) {m : ℕ} {k e : ℤ} (hm : m ≠ 0) (h : Roundable (m * (2 : ℚ) ^ k) e) :
    ∃ f, roundToF64 sign m k = some f ∧ RoundsTo f sign (m * (2 : ℚ) ^ k) e := by
  obtain ⟨q, hnear, heq⟩ := roundMagnitude_eq (h.eq_log2_add hm)
  obtain ⟨hq, hq'⟩ := h.significand_bounds hnear
  have hmin := h.min
  have hmax := h.exp_le
  rw [roundToF64, heq]
  by_cases hcarry : q = 2 ^ 53
  · subst hcarry
    have hexp := h.exp_lt_of_carry hnear
    obtain ⟨hnormal, hmag⟩ := f64Pack_normal sign (q := 2 ^ 52) (e := e + 1) le_rfl (by decide) (by omega) (by omega)
    refine ⟨f64Pack sign (e + 1 + 1023).toNat (2 ^ 52 - 2 ^ 52), ?_, hnormal, f64Sign_f64Pack .., _, ?_, hnear⟩
    · rw [if_pos rfl, if_pos ⟨by omega, by omega⟩]
    · rw [hmag, ← two_zpow_eq_units, ← two_zpow_succ_eq_units]
  · obtain ⟨hnormal, hmag⟩ := f64Pack_normal sign hq (by omega) hmin hmax
    refine ⟨f64Pack sign (e + 1023).toNat (q - 2 ^ 52), ?_, hnormal, f64Sign_f64Pack .., q, hmag, hnear⟩
    rw [if_neg hcarry, if_pos ⟨hmin, hmax⟩]

/-! #### Rounding keeps the numbers of the format and does not pass them -/

/-- A number with a significand of at most 53 bits is a multiple of the unit at `e`, or it is not above 2^e. -/
theorem multiple_or_le_two_zpow {n : ℕ} (hn : n ≤ 2 ^ 53) (j e : ℤ) :
    (∃ p : ℕ, n * (2 : ℚ) ^ j = p * (2 : ℚ) ^ (e - 52)) ∨ n * (2 : ℚ) ^ j ≤ (2 : ℚ) ^ e := by
  by_cases hj : e - 52 ≤ j
  · left
    refine ⟨n * 2 ^ (j - (e - 52)).toNat, ?_⟩
    rw [two_zpow_eq_mul (n := (j - (e - 52)).toNat) (j := e - 52) (e := j) (by omega), Nat.cast_mul, mul_assoc]
  · right
    calc n * (2 : ℚ) ^ j
        ≤ (2 ^ 53 : ℕ) * (2 : ℚ) ^ j := by gcongr
      _ = (2 : ℚ) ^ (53 + j) := (two_zpow_eq_mul rfl).symm
      _ ≤ (2 : ℚ) ^ e := zpow_le_zpow_right₀ one_le_two (by omega)

namespace RoundsTo

variable {f : F64} {sign : Bool} {x : ℚ} {e : ℤ} {n : ℕ} {j : ℤ}

/-- Rounding does not pass below a number with a significand of at most 53 bits. -/
theorem le_abs_value (hf : RoundsTo f sign x e) (h : Roundable x e) (hn : n ≤ 2 ^ 53) (hle : n * (2 : ℚ) ^ j ≤ x) :
    n * (2 : ℚ) ^ j ≤ |f64Value f| := by
  obtain ⟨q, hmag, hnear⟩ := hf.magnitude
  have hu : (0 : ℚ) < (2 : ℚ) ^ (e - 52) := by positivity
  rw [hmag]
  rcases multiple_or_le_two_zpow hn j e with ⟨p, hp⟩ | hsmall
  · rw [hp] at hle ⊢
    have := hnear.le_of_le hu hle
    gcongr
  · refine hsmall.trans ?_
    have := (h.significand_bounds hnear).1
    rw [two_zpow_eq_units]
    gcongr

/-- Rounding does not pass above a number with a significand of at most 53 bits. -/
theorem abs_value_le (hf : RoundsTo f sign x e) (h : Roundable x e) (hn : n ≤ 2 ^ 53) (hge : x ≤ n * (2 : ℚ) ^ j) :
    |f64Value f| ≤ n * (2 : ℚ) ^ j := by
  obtain ⟨q, hmag, hnear⟩ := hf.magnitude
  have hu : (0 : ℚ) < (2 : ℚ) ^ (e - 52) := by positivity
  rw [hmag]
  rcases multiple_or_le_two_zpow hn j e with ⟨p, hp⟩ | hsmall
  · rw [hp] at hge ⊢
    have := hnear.le_of_ge hu hge
    gcongr
  · have hx : x ≤ (2 ^ 52 : ℕ) * (2 : ℚ) ^ (e - 52) := two_zpow_eq_units e ▸ hge.trans hsmall
    have := hnear.le_of_ge hu hx
    calc q * (2 : ℚ) ^ (e - 52)
        ≤ (2 ^ 52 : ℕ) * (2 : ℚ) ^ (e - 52) := by gcongr
      _ = (2 : ℚ) ^ e := (two_zpow_eq_units e).symm
      _ ≤ n * (2 : ℚ) ^ j := h.lo.trans hge

/-- A number with a significand of at most 53 bits is its own rounding. -/
theorem abs_value_eq (hf : RoundsTo f sign x e) (h : Roundable x e) (hn : n ≤ 2 ^ 53) (heq : x = n * (2 : ℚ) ^ j) :
    |f64Value f| = x :=
  heq ▸ le_antisymm (hf.abs_value_le h hn heq.le) (hf.le_abs_value h hn heq.ge)

end RoundsTo

/-! #### The integer conversion (R102) -/

/-- R102's range is far below the largest normal number. -/
theorem two_pow_53_lt_roundUp_bound : (2 : ℚ) ^ 53 < 2 ^ 1024 - 2 ^ 970 := by
  have hone : (1 : ℚ) ≤ 2 ^ 970 := one_le_pow₀ one_le_two
  rw [roundUp_bound_eq]
  generalize (2 : ℚ) ^ 970 = y at hone
  linarith

/-- The conversion of an integer other than 0, within the range of R102. -/
theorem i2f_of_ne_zero {s : ℤ} (hs : s ≠ 0) (hmax : s.natAbs ≤ 2 ^ 53) :
    f64IsNormal (i2f s) = true ∧ f64Sign (i2f s) = decide (s < 0) ∧ |f64Value (i2f s)| = s.natAbs := by
  have hn : s.natAbs ≠ 0 := Int.natAbs_ne_zero.2 hs
  have hone : (1 : ℚ) ≤ (s.natAbs : ℚ) * (2 : ℚ) ^ (0 : ℤ) := by
    rw [zpow_zero, mul_one]
    exact_mod_cast Nat.one_le_iff_ne_zero.2 hn
  have hbound : (s.natAbs : ℚ) * (2 : ℚ) ^ (0 : ℤ) ≤ 2 ^ 53 := by
    rw [zpow_zero, mul_one]
    exact_mod_cast hmax
  obtain ⟨e, he⟩ := Roundable.exists_of_bounds (le_trans (zpow_le_one_of_nonpos₀ one_le_two (by norm_num)) hone)
    (hbound.trans_lt two_pow_53_lt_roundUp_bound)
  obtain ⟨f, hf, hround⟩ := roundToF64_roundsTo (decide (s < 0)) hn he
  have hi2f : i2f s = f := by rw [i2f, if_neg hs, if_pos hmax, hf]
  have hmag := hround.abs_value_eq he hmax rfl
  rw [zpow_zero, mul_one] at hmag
  rw [hi2f]
  exact ⟨hround.normal, hround.sign, hmag⟩

/-- The converted integer is a zero or normal number. -/
theorem f64Ok_i2f {s : ℤ} (hmax : s.natAbs ≤ 2 ^ 53) : f64Ok (i2f s) := by
  by_cases hs : s = 0
  · subst hs
    exact .inl (by decide)
  · exact .inr (i2f_of_ne_zero hs hmax).1

/-- The converted integer denotes the integer. -/
theorem f64Value_i2f {s : ℤ} (hmax : s.natAbs ≤ 2 ^ 53) : f64Value (i2f s) = s := by
  by_cases hs : s = 0
  · subst hs
    simpa using f64Value_of_zero (a := i2f 0) (by decide)
  · obtain ⟨-, hsign, hmag⟩ := i2f_of_ne_zero hs hmax
    rw [f64Value_eq_sign_mul_abs (f64Ok_i2f hmax), hsign, hmag, Nat.cast_natAbs, Int.cast_abs]
    rcases lt_or_gt_of_ne hs with hneg | hpos
    · rw [abs_of_neg (Int.cast_lt_zero.2 hneg)]
      simp [hneg]
    · rw [abs_of_pos (Int.cast_pos.2 hpos)]
      simp [hpos.not_gt]

/-- Every value of `sint24` is well within the range of the conversion. -/
theorem natAbs_sint24_le (v : Raw) : (sint24 v).natAbs ≤ 2 ^ 23 := by
  have := sint24_bounds v
  omega

theorem abs_sint24_le (v : Raw) : |(sint24 v : ℚ)| ≤ 2 ^ 23 := by
  rw [← Int.cast_abs, ← Nat.cast_natAbs]
  exact_mod_cast natAbs_sint24_le v

/-- Settles O53: an integer of magnitude at most 2^53 needs no rounding. -/
theorem integerConversionIsExact : Obligations.IntegerConversionIsExact :=
  ⟨fun _ h => ⟨f64Ok_i2f h, f64Value_i2f h⟩, fun v => (natAbs_sint24_le v).trans (by decide), rfl⟩

/-! #### The product (R103) -/

/-- A zero operand gives the zero of the product's sign. -/
theorem fmul_of_zero {a b : F64} (ha : f64Ok a) (hb : f64Ok b) (h : f64IsZero a = true ∨ f64IsZero b = true) :
    fmul a b = f64Pack (f64Sign a != f64Sign b) 0 0 := by
  rw [fmul, if_pos]
  rcases h with hzero | hzero
  · rcases hb with hb | hb <;> simp [hzero, hb]
  · rcases ha with ha | ha <;> simp [hzero, ha]

/-- The zero of either sign is a zero. -/
theorem f64IsZero_f64Pack_zero (sign : Bool) : f64IsZero (f64Pack sign 0 0) = true := by
  simp [f64IsZero]

/-- The product of two normal numbers is the rounding of the product of their significands. -/
theorem fmul_of_normal {a b f : F64} (ha : f64IsNormal a = true) (hb : f64IsNormal b = true)
    (h : roundToF64 (f64Sign a != f64Sign b) (f64Significand a * f64Significand b)
      ((f64Exp a : ℤ) - 1075 + ((f64Exp b : ℤ) - 1075)) = some f) : fmul a b = f := by
  simp [fmul, f64IsZero_of_normal ha, f64IsZero_of_normal hb, ha, hb, h]

/-- The exact magnitude of a product, as one integer at one exponent. -/
theorem abs_mul_f64Value {a b : F64} (ha : f64IsNormal a = true) (hb : f64IsNormal b = true) :
    |f64Value a * f64Value b| = (f64Significand a * f64Significand b : ℕ) *
      (2 : ℚ) ^ ((f64Exp a : ℤ) - 1075 + ((f64Exp b : ℤ) - 1075)) := by
  rw [abs_mul, abs_f64Value_of_normal ha, abs_f64Value_of_normal hb, zpow_add₀ two_ne_zero]
  push_cast
  ring

/-- A product in the normal range is rounded as the rule says. -/
theorem fmul_roundsTo {a b : F64} {e : ℤ} (ha : f64Ok a) (hb : f64Ok b)
    (h : Roundable |f64Value a * f64Value b| e) :
    RoundsTo (fmul a b) (f64Sign a != f64Sign b) |f64Value a * f64Value b| e := by
  have hne : f64Value a * f64Value b ≠ 0 :=
    abs_pos.1 (lt_of_lt_of_le (by positivity) h.lo)
  have hna := f64IsNormal_of_value_ne_zero ha (left_ne_zero_of_mul hne)
  have hnb := f64IsNormal_of_value_ne_zero hb (right_ne_zero_of_mul hne)
  have hm : f64Significand a * f64Significand b ≠ 0 := by
    have := f64Significand_bounds a
    have := f64Significand_bounds b
    exact mul_ne_zero (by omega) (by omega)
  rw [abs_mul_f64Value hna hnb] at h ⊢
  obtain ⟨f, hf, hround⟩ := roundToF64_roundsTo (f64Sign a != f64Sign b) hm h
  rwa [fmul_of_normal hna hnb hf]

/-- Settles O54: zeros by their sign, and the rounding of the exact product of two normal numbers. -/
theorem productIsRoundedToNearestEven : Obligations.ProductIsRoundedToNearestEven := by
  intro a b ha hb
  refine ⟨fun hzero => ?_, fun e hlo hhi hmin hmax => ?_⟩
  · rw [fmul_of_zero ha hb hzero]
    exact ⟨f64IsZero_f64Pack_zero _, f64Sign_f64Pack ..⟩
  · obtain ⟨hnormal, hsign, q, hmag, hnear, htie⟩ := fmul_roundsTo ha hb ⟨hlo, hhi, hmin, hmax⟩
    exact ⟨hnormal, hsign, q, hmag, hnear, htie⟩

/-- The sign of the product is the product of the signs. -/
theorem mul_f64Value_eq_sign_mul_abs {a b : F64} (ha : f64Ok a) (hb : f64Ok b) :
    f64Value a * f64Value b = (if f64Sign a != f64Sign b then -1 else 1) * |f64Value a * f64Value b| := by
  rw [f64Value_eq_sign_mul_abs ha, f64Value_eq_sign_mul_abs hb]
  cases f64Sign a <;> cases f64Sign b <;> simp [abs_mul]

/-- Half a unit is at most 2^-53 of the number. -/
theorem NearestEven.error_le {x : ℚ} {e : ℤ} {q : ℕ} (h : NearestEven x ((2 : ℚ) ^ (e - 52)) q)
    (hlo : (2 : ℚ) ^ e ≤ x) : |q * (2 : ℚ) ^ (e - 52) - x| ≤ x / 2 ^ 53 := by
  rw [two_zpow_eq_units] at hlo
  push_cast at hlo
  rw [abs_sub_comm]
  linarith [h.1]

/-- A product in the normal range is within 2^-53 of the exact one, relatively. -/
theorem fmul_error_le {a b : F64} {e : ℤ} (ha : f64Ok a) (hb : f64Ok b) (h : Roundable |f64Value a * f64Value b| e) :
    |f64Value (fmul a b) - f64Value a * f64Value b| ≤ |f64Value a * f64Value b| / 2 ^ 53 := by
  have hround := fmul_roundsTo ha hb h
  obtain ⟨q, hmag, hnear⟩ := hround.magnitude
  have herror := hnear.error_le h.lo
  rw [← hmag] at herror
  have hvalue := f64Value_eq_sign_mul_abs (.inr hround.normal)
  rw [hround.sign] at hvalue
  have hdiff : f64Value (fmul a b) - f64Value a * f64Value b =
      (if f64Sign a != f64Sign b then -1 else 1) * (|f64Value (fmul a b)| - |f64Value a * f64Value b|) := by
    rw [mul_sub, ← mul_f64Value_eq_sign_mul_abs ha hb, ← hvalue]
  rw [hdiff, abs_mul]
  split <;> simpa using herror

/-! #### The measurements (R108, R109) -/

/-- What a legal SCALE is, as a number: a positive normal one, and 2^23 times it does not round up past the largest normal
number (R108; 00_scope.md R9). -/
structure ScaleOk (a : F64) : Prop where
  normal : f64IsNormal a = true
  positive : 0 < f64Value a
  min : (2 : ℚ) ^ (-1022 : ℤ) ≤ f64Value a
  max : 2 ^ 23 * f64Value a < 2 ^ 1024 - 2 ^ 970

/-- A legal SCALE is below 2^1001, so at most (2^53 - 1) * 2^948. -/
theorem scaleOk_of_legal {c : Config} (h : c.legal = true) : ScaleOk c.scale := by
  obtain ⟨-, -, -, -, hscale⟩ := c.legal_iff.1 h
  obtain ⟨hnormal, hpos, hlt⟩ := (scaleLegal_iff c).1 hscale
  have hsign := (f64Value_pos_iff hnormal).1 hpos
  have hexp := (f64Value_lt_two_zpow_iff hnormal hsign 1001).1 hlt
  have hclass := hnormal
  simp only [f64IsNormal, Bool.and_eq_true, decide_eq_true_eq] at hclass
  refine ⟨hnormal, hpos, ?_, ?_⟩
  · exact (zpow_le_zpow_right₀ one_le_two (by omega)).trans (f64Value_binade hnormal hsign).1
  · have hsig : (f64Significand c.scale : ℚ) + 1 ≤ 2 ^ 53 := by
      exact_mod_cast (f64Significand_bounds c.scale).2
    have hunit : (2 : ℚ) ^ ((f64Exp c.scale : ℤ) - 1075) ≤ 2 ^ 948 :=
      zpow_natCast (2 : ℚ) 948 ▸ zpow_le_zpow_right₀ one_le_two (by omega)
    have hshift : (2 : ℚ) ^ 970 = 2 ^ 22 * 2 ^ 948 := by rw [← pow_add]
    have hmax : f64Value c.scale ≤ (2 ^ 53 - 1) * 2 ^ 948 := by
      rw [← abs_of_pos hpos, abs_f64Value_of_normal hnormal]
      exact mul_le_mul (le_sub_iff_add_le.2 hsig) hunit (by positivity) (by norm_num)
    have hlarge : (0 : ℚ) < 2 ^ 948 := by positivity
    rw [roundUp_bound_eq, hshift]
    generalize (2 : ℚ) ^ 948 = y at hmax hlarge
    linarith

section
variable {a : F64} {raw : Raw}

/-- The exact measurement lies between one and 2^23 increments (R108). -/
theorem ScaleOk.exact_bounds (h : ScaleOk a) (hs : sint24 raw ≠ 0) :
    f64Value a ≤ |sint24 raw * f64Value a| ∧ |sint24 raw * f64Value a| ≤ 2 ^ 23 * f64Value a := by
  have hmin : (1 : ℚ) ≤ |(sint24 raw : ℚ)| := by exact_mod_cast Int.one_le_abs hs
  have hmax : |(sint24 raw : ℚ)| ≤ 2 ^ 23 := abs_sint24_le raw
  rw [abs_mul, abs_of_pos h.positive]
  exact ⟨le_mul_of_one_le_left h.positive.le hmin, mul_le_mul_of_nonneg_right hmax h.positive.le⟩

/-- Every measurement but 0 has a rounding in the normal range. -/
theorem ScaleOk.roundable (h : ScaleOk a) (hs : sint24 raw ≠ 0) : ∃ e, Roundable |sint24 raw * f64Value a| e := by
  obtain ⟨hlo, hhi⟩ := h.exact_bounds hs
  exact Roundable.exists_of_bounds (h.min.trans hlo) (hhi.trans_lt h.max)

/-- The first factor of `mm` denotes the signed raw value. -/
theorem f64Value_i2f_sint24 (raw : Raw) : f64Value (i2f (sint24 raw)) = sint24 raw :=
  f64Value_i2f ((natAbs_sint24_le raw).trans (by decide))

theorem f64Ok_i2f_sint24 (raw : Raw) : f64Ok (i2f (sint24 raw)) :=
  f64Ok_i2f ((natAbs_sint24_le raw).trans (by decide))

/-- The measurement of the raw word 0 is a zero. -/
theorem f64IsZero_mm (h : ScaleOk a) (hs : sint24 raw = 0) : f64IsZero (mm a raw) = true := by
  rw [mm, fmul_of_zero (f64Ok_i2f_sint24 raw) (.inr h.normal) (.inl (hs ▸ by decide))]
  exact f64IsZero_f64Pack_zero _

/-- Every other measurement is the rounding of the exact product. -/
theorem mm_roundsTo {e : ℤ} (h : ScaleOk a) (he : Roundable |sint24 raw * f64Value a| e) :
    RoundsTo (mm a raw) (f64Sign (i2f (sint24 raw)) != f64Sign a) |sint24 raw * f64Value a| e := by
  rw [← f64Value_i2f_sint24] at he ⊢
  exact fmul_roundsTo (f64Ok_i2f_sint24 raw) (.inr h.normal) he

/-- SCALE and 2^23 * SCALE have significands of 53 bits, so rounding a measurement does not pass them (R108). -/
theorem mm_normal (h : ScaleOk a) (hs : sint24 raw ≠ 0) : f64IsNormal (mm a raw) = true ∧
    f64Value a ≤ |f64Value (mm a raw)| ∧ |f64Value (mm a raw)| ≤ 2 ^ 23 * f64Value a := by
  obtain ⟨hlo, hhi⟩ := h.exact_bounds hs
  obtain ⟨e, he⟩ := h.roundable hs
  have hround := mm_roundsTo h he
  have hsig := (f64Significand_bounds a).2.le
  have hscale : f64Value a = f64Significand a * (2 : ℚ) ^ ((f64Exp a : ℤ) - 1075) := by
    rw [← abs_f64Value_of_normal h.normal, abs_of_pos h.positive]
  have hshift : 2 ^ 23 * f64Value a = f64Significand a * (2 : ℚ) ^ (23 + ((f64Exp a : ℤ) - 1075)) := by
    rw [hscale, zpow_add₀ two_ne_zero, mul_left_comm]
    rfl
  exact ⟨hround.normal, hscale.trans_le (hround.le_abs_value he hsig (hscale.symm.trans_le hlo)),
    (hround.abs_value_le he hsig (hhi.trans_eq hshift)).trans_eq hshift.symm⟩

/-- A measurement is within 2^-53 of the exact one, relatively. -/
theorem mm_error_le (h : ScaleOk a) (raw : Raw) :
    |f64Value (mm a raw) - sint24 raw * f64Value a| ≤ |sint24 raw * f64Value a| / 2 ^ 53 := by
  by_cases hs : sint24 raw = 0
  · simp [f64Value_of_zero (f64IsZero_mm h hs), hs]
  · obtain ⟨e, he⟩ := h.roundable hs
    rw [← f64Value_i2f_sint24] at he ⊢
    exact fmul_error_le (f64Ok_i2f_sint24 raw) (.inr h.normal) he

/-- In increments, the error is far below one half. -/
theorem mm_readback (h : ScaleOk a) (raw : Raw) :
    |f64Value (mm a raw) / f64Value a - sint24 raw| < 1 / 2 := by
  have hpos := h.positive
  have herror := mm_error_le h raw
  have hmax := abs_sint24_le raw
  rw [abs_mul, abs_of_pos hpos, mul_div_right_comm] at herror
  rw [div_sub' hpos.ne', abs_div, abs_of_pos hpos, mul_comm (f64Value a)]
  calc |f64Value (mm a raw) - sint24 raw * f64Value a| / f64Value a
      ≤ |(sint24 raw : ℚ)| / 2 ^ 53 := (div_le_iff₀ hpos).2 herror
    _ < 1 / 2 := by linarith

/-- Half an increment on either side does not reach the next raw value. -/
theorem mm_strictMono (h : ScaleOk a) {v w : Raw} (hlt : sint24 v < sint24 w) :
    f64Value (mm a v) < f64Value (mm a w) := by
  have hv := (abs_lt.1 (mm_readback h v)).2
  have hw := (abs_lt.1 (mm_readback h w)).1
  have hstep : (sint24 v : ℚ) + 1 ≤ sint24 w := by exact_mod_cast hlt
  have hdiv : f64Value (mm a v) / f64Value a < f64Value (mm a w) / f64Value a := by linarith
  exact (div_lt_div_iff_of_pos_right h.positive).1 hdiv

/-- Distinct raw words have distinct measurements. -/
theorem mm_injective (h : ScaleOk a) : Function.Injective (mm a) := by
  intro v w heq
  have hvalue := congrArg f64Value heq
  refine sint24_injective (le_antisymm ?_ ?_)
  · exact not_lt.1 fun hlt => (mm_strictMono h hlt).ne' hvalue
  · exact not_lt.1 fun hlt => (mm_strictMono h hlt).ne hvalue

end

/-- Settles O57: the raw word 0 by the zero operand, every other by its rounding, which is no zero. -/
theorem measurementsAreZeroOrNormal : Obligations.MeasurementsAreZeroOrNormal := by
  intro c raw hlegal
  have h := scaleOk_of_legal hlegal
  refine ⟨⟨f64IsZero_mm h, fun hzero => ?_⟩, mm_normal h⟩
  by_contra hs
  have hne := f64IsZero_of_normal (mm_normal h hs).1
  exact Bool.false_ne_true (hne.symm.trans hzero)

/-- Settles O58: the rounding error is far below half an increment, so the raw word can be read back. -/
theorem measurementsRoundTripAndAreMonotone : Obligations.MeasurementsRoundTripAndAreMonotone := by
  intro c hlegal
  have h := scaleOk_of_legal hlegal
  exact ⟨mm_readback h, fun _ _ => mm_strictMono h, fun _ _ heq => mm_injective h heq⟩

end Sys2Proof.Machine

/-! ### Frame orchestration (spec/43_frame_orchestration.md): EMIT, DISCARD and HOLD, the transition table, the state graph,
and what of a frame outlives its event -/

namespace Sys2Proof.Machine

/-! #### EMIT, DISCARD and HOLD (R111 to R113) -/

/-- R111: the tick in S_EMIT delivers the event and clears the frame, at any line levels. -/
theorem State.tickAt.emit {s : State} {c d : Bool} (h : s.tickAt sEmit c d) :
    decode s.sel s.guards = .ok .emit ∧
      step s = .next { s.ticked Regs.reset with events := s.events ++
        [⟨s.tickNo, .emit s.regs.raw0 s.regs.raw1 s.regs.meas0 s.regs.meas1⟩] } := by
  obtain ⟨hlegal, hpins, hstate⟩ := h
  have hdec := decode_of_tickSelects hpins (.emit hstate)
  refine ⟨hdec, ?_⟩
  rw [step_of_exec hlegal hdec rfl, hpins]
  rfl

/-- Settles O16: EMIT is the delivery of its event and then the frame clear. -/
theorem emitDeliversTheFrameAndClearsIt : Obligations.EmitDeliversTheFrameAndClearsIt :=
  ⟨fun _ => rfl, fun _ _ _ h => h.emit⟩

/-- Settles O17: DISCARD is the delivery of its event and then the frame clear. -/
theorem discardReportsTheErrorSetAndClearsTheFrame : Obligations.DiscardReportsTheErrorSetAndClearsTheFrame :=
  ⟨fun _ => rfl, fun _ _ _ h => h.discard⟩

/-- Settles O3: HOLD is the identity, and an edge that is no tick ends without a tick. -/
theorem holdChangesNothing : Obligations.HoldChangesNothing := by
  refine ⟨fun s => rfl, fun s hlegal hrst htick => ?_⟩
  have hdec := decode_of_hold hrst htick
  refine ⟨hdec, _, step_of_exec hlegal hdec rfl, ?_, rfl⟩
  simp [State.endEdge, htick]

/-! #### The transition table (R115) -/

section
variable {s t : State} {i : Instr}

/-- The row of a tick: the operation it selects and the control state after it are the table's. R7 makes 24 the LEN guard's
word length. -/
theorem TickSelects.tableRow (hsel : TickSelects s i) (hlegal : s.cfg.legal = true) (h : exec i s = .next t) :
    tableOperation s.cfg s.regs s.pins.clkIn s.pins.dataIn = i ∧ t.regs.state = codeAfter s.cfg s.regs s.pins.clkIn := by
  have hword := Config.wordBits_of_legal hlegal
  cases hsel <;> cases h
  case syncMeasAccept hs hc hmark => simp [tableOperation, codeAfter, hs, hc, hmark]
  case syncMeasShort hs hc hmark => simp [tableOperation, codeAfter, hs, hc, hmark.not_ge]
  case bitMeasNext hs hc hmark hbound | bitMeasBound hs hc hmark hbound =>
    simp [tableOperation, codeAfter, hs, hc, hmark.not_ge, hbound]
  case bitMeasWord0 hs hc hmark hlen hw | bitMeasWord1 hs hc hmark hlen hw =>
    rw [hword] at hlen
    simp [tableOperation, codeAfter, hs, hc, hmark, hlen, hw]
  case bitMeasBadlen hs hc hmark hlen =>
    rw [hword] at hlen
    simp [tableOperation, codeAfter, hs, hc, hmark, hlen, -Nat.reducePow]
  case convert hs | emit hs | discard hs =>
    rw [tableOperation, codeAfter, hs]
    exact ⟨rfl, rfl⟩
  case syncArmHold hs hc | syncArmGo hs hc | syncWaitHold hs hc | syncWaitRise hs hc | syncMeasCount hs hc
      | bitSampleOk hs hc | bitSampleGlitch hs hc | bitWaitHold hs hc | bitWaitRise hs hc | bitMeasCount hs hc =>
    rw [tableOperation, codeAfter, hs, hc]
    exact ⟨rfl, rfl⟩

/-- What a tick can do: it runs an operation that it selects. -/
theorem step_tickSelects {c d : Bool} (hpins : s.pins = tickPins c d) (h : step s = .next t) :
    s.cfg.legal = true ∧ ∃ i u, TickSelects s i ∧ exec i s = .next u ∧ t = u.endEdge s.pins := by
  obtain ⟨hlegal, i, u, hsel, hexec, rfl⟩ := step_selects h
  refine ⟨hlegal, i, u, ?_, hexec, rfl⟩
  cases hsel with
  | reset hrst => simp [hpins, tickPins] at hrst
  | hold _ htick => simp [hpins, tickPins] at htick
  | tick _ _ hsel => exact hsel

end

/-- Settles O25: outside the unused codes the tick steps, and the operation it selects is the table's. -/
theorem transitionTableHolds : Obligations.TransitionTableHolds := by
  intro s c d hlegal hpins hcode
  obtain ⟨t, hstep⟩ := step_next_of_code_le hlegal hcode
  obtain ⟨-, i, u, hsel, hexec, ht⟩ := step_tickSelects hpins hstep
  obtain ⟨hop, hafter⟩ := hsel.tableRow hlegal hexec
  rw [hpins] at hop hafter
  obtain rfl : tableOperation s.cfg s.regs c d = i := hop
  refine ⟨decode_of_tickSelects hpins hsel, t, hstep, ?_, step_code_le hcode hstep, ?_⟩
  · rw [ht, endEdge_regs, hafter]
    rfl
  · rw [ht, endEdge_events, exec_record hexec]

/-! #### The state graph (R110) -/

section
variable {r : Regs}

/-- The doc-level state in which the word of index `w` is received (10_state.md R16). -/
def receivingWord (w : BitVec 1) : DocState := if w = 0#1 then .receivingWord0 else .receivingWord1

theorem docState_of_sync (h : r.state = sSyncArm ∨ r.state = sSyncWait ∨ r.state = sSyncMeas) :
    r.docState = some .syncing := by
  obtain ⟨hsyncing, -⟩ := docStateIsTheMapping r
  exact hsyncing.2 h

theorem docState_of_bit (h : r.state = sBitSample ∨ r.state = sBitWait ∨ r.state = sBitMeas) :
    r.docState = some (receivingWord r.widx) := by
  obtain ⟨-, hword0, hword1, -⟩ := docStateIsTheMapping r
  rcases BitVec.eq_zero_or_eq_one r.widx with hw | hw
  · rw [hw]
    exact hword0.2 ⟨h, hw⟩
  · rw [hw]
    exact hword1.2 ⟨h, hw⟩

theorem docState_of_convert (h : r.state = sConvert) : r.docState = some .converting := by
  obtain ⟨-, -, -, hconverting, -⟩ := docStateIsTheMapping r
  exact hconverting.2 h

theorem docState_of_emit (h : r.state = sEmit) : r.docState = some .emit := by
  obtain ⟨-, -, -, -, hemit, -⟩ := docStateIsTheMapping r
  exact hemit.2 h

theorem docState_of_discard (h : r.state = sDiscard) : r.docState = some .discard := by
  obtain ⟨-, -, -, -, -, hdiscard⟩ := docStateIsTheMapping r
  exact hdiscard.2 h

/-- Within a word the doc-level state stays. -/
theorem receivingWord_stays (w : BitVec 1) : (receivingWord w, receivingWord w) ∈ docEdges := by
  decide +revert

/-- Either word may be discarded. -/
theorem receivingWord_discards (w : BitVec 1) : (receivingWord w, .discard) ∈ docEdges := by
  decide +revert

end

/-- The operation of a tick moves the doc-level state along an edge of the graph. -/
theorem TickSelects.docEdge {s t : State} {i : Instr} (hsel : TickSelects s i) (h : exec i s = .next t) :
    ∃ a b, s.regs.docState = some a ∧ t.regs.docState = some b ∧ (a, b) ∈ docEdges := by
  have hkeeps : .WIDX ∉ writesOf i → t.regs.widx = s.regs.widx := fun hn => value_WIDX.1 (exec_keeps h hn)
  have within (hbefore : s.regs.state = sBitSample ∨ s.regs.state = sBitWait ∨ s.regs.state = sBitMeas)
      (hafter : t.regs.state = sBitSample ∨ t.regs.state = sBitWait ∨ t.regs.state = sBitMeas)
      (hn : .WIDX ∉ writesOf i) : ∃ a b, s.regs.docState = some a ∧ t.regs.docState = some b ∧ (a, b) ∈ docEdges :=
    ⟨_, _, docState_of_bit hbefore, hkeeps hn ▸ docState_of_bit hafter, receivingWord_stays _⟩
  cases hsel <;> cases h
  case syncArmHold hs _ => exact ⟨_, _, docState_of_sync (.inl hs), docState_of_sync (.inl rfl), by decide⟩
  case syncArmGo hs _ => exact ⟨_, _, docState_of_sync (.inl hs), docState_of_sync (.inr (.inl rfl)), by decide⟩
  case syncWaitHold hs _ =>
    exact ⟨_, _, docState_of_sync (.inr (.inl hs)), docState_of_sync (.inr (.inl rfl)), by decide⟩
  case syncWaitRise hs _ =>
    exact ⟨_, _, docState_of_sync (.inr (.inl hs)), docState_of_sync (.inr (.inr rfl)), by decide⟩
  case syncMeasCount hs _ =>
    exact ⟨_, _, docState_of_sync (.inr (.inr hs)), docState_of_sync (.inr (.inr rfl)), by decide⟩
  case syncMeasAccept hs _ _ =>
    exact ⟨_, receivingWord 0#1, docState_of_sync (.inr (.inr hs)), docState_of_bit (.inl rfl), by decide⟩
  case syncMeasShort hs _ _ => exact ⟨_, _, docState_of_sync (.inr (.inr hs)), docState_of_discard rfl, by decide⟩
  case bitSampleOk hs _ => exact within (.inl hs) (.inr (.inl rfl)) (by simp [writesOf])
  case bitWaitHold hs _ => exact within (.inr (.inl hs)) (.inr (.inl rfl)) (by decide)
  case bitWaitRise hs _ => exact within (.inr (.inl hs)) (.inr (.inr rfl)) (by decide)
  case bitMeasCount hs _ => exact within (.inr (.inr hs)) (.inr (.inr rfl)) (by decide)
  case bitMeasNext hs _ _ _ => exact within (.inr (.inr hs)) (.inl rfl) (by decide)
  case bitSampleGlitch hs _ => exact ⟨_, _, docState_of_bit (.inl hs), docState_of_discard rfl, receivingWord_discards _⟩
  case bitMeasBound hs _ _ _ | bitMeasBadlen hs _ _ _ =>
    exact ⟨_, _, docState_of_bit (.inr (.inr hs)), docState_of_discard rfl, receivingWord_discards _⟩
  case bitMeasWord0 hs _ _ _ hw =>
    exact ⟨receivingWord 0#1, receivingWord 1#1, hw ▸ docState_of_bit (.inr (.inr hs)), docState_of_bit (.inl rfl),
      by decide⟩
  case bitMeasWord1 hs _ _ _ hw =>
    exact ⟨receivingWord 1#1, _, hw ▸ docState_of_bit (.inr (.inr hs)), docState_of_convert rfl, by decide⟩
  case convert hs => exact ⟨_, _, docState_of_convert hs, docState_of_emit rfl, by decide⟩
  case emit hs => exact ⟨_, _, docState_of_emit hs, docState_of_sync (.inl rfl), by decide⟩
  case discard hs => exact ⟨_, _, docState_of_discard hs, docState_of_sync (.inl rfl), by decide⟩

/-- Settles O33: the operation of the tick follows an edge, and the invariant after the step leaves ERR empty in
S_CONVERT. -/
theorem ticksFollowTheStateGraph : Obligations.TicksFollowTheStateGraph := by
  intro s t c d hinv hpins hstep
  refine ⟨?_, fun hconverting => ?_⟩
  · obtain ⟨-, i, u, hsel, hexec, rfl⟩ := step_tickSelects hpins hstep
    rw [endEdge_regs]
    exact hsel.docEdge hexec
  · obtain ⟨-, -, -, hmapping, -⟩ := docStateIsTheMapping t.regs
    exact congrArg Regs.err ((hinv.step hstep).regs.converting (hmapping.1 hconverting))

/-! #### Nothing of a frame outlives its event (R118) -/

/-- Registers that hold the same values are the same. -/
theorem Regs.eq_of_value {r q : Regs} (h : ∀ n, r.value n = q.value n) : r = q :=
  Regs.ext (value_STATE.1 (h _)) (value_WIDX.1 (h _)) (value_ACC.1 (h _)) (value_WEIGHT.1 (h _)) (value_DUR.1 (h _))
    (value_RAW0.1 (h _)) (value_RAW1.1 (h _)) (value_ERR.1 (h _)) (value_MEAS0.1 (h _)) (value_MEAS1.1 (h _))

/-- An emission counted from a tick `n` ticks earlier. -/
def Emission.delayed (n : ℕ) (x : Emission) : Emission := ⟨n + x.tick, x.event⟩

/-- Between `s` and `t` there are `n` ticks, and they deliver the emissions `l`, counted from the first of them. -/
structure Delivers (s t : State) (n : ℕ) (l : List Emission) : Prop where
  tickNo : t.tickNo = s.tickNo + n
  events : t.events = s.events ++ l.map (Emission.delayed s.tickNo)

section
variable {s t v : State} {n m : ℕ} {l k : List Emission}

theorem Delivers.refl (s : State) : Delivers s s 0 [] :=
  ⟨rfl, (List.append_nil _).symm⟩

theorem Delivers.trans (h : Delivers s t n l) (h' : Delivers t v m k) :
    Delivers s v (n + m) (l ++ k.map (Emission.delayed n)) where
  tickNo := by rw [h'.tickNo, h.tickNo, Nat.add_assoc]
  events := by
    rw [h'.events, h.events, h.tickNo]
    simp [Emission.delayed, Nat.add_assoc]

/-- The ticks in an edge: one or none (10_state.md R31). -/
def edgeTicks (p : Pins) : ℕ := if !p.rst && p.tick then 1 else 0

/-- What an edge delivers depends on its operation, its ports and the registers. -/
theorem delivers_of_exec {i : Instr} (p : Pins) (h : exec i s = .next t) :
    Delivers s (t.endEdge p) (edgeTicks p) ((eventOf i s.regs).toList.map fun e => ⟨0, e⟩) where
  tickNo := by
    rw [endEdge_tickNo, exec_record h, edgeTicks]
    split
    · rfl
    · rfl
  events := by
    rw [endEdge_events, exec_record h]
    simp [Emission.delayed, Function.comp_def]

end

/-- Two machines whose blocks, configurations and coming stimuli are the same; their pasts, the numbers of edges and ticks and
the events delivered, may differ. -/
structure SameBlock (s u : State) : Prop where
  cfg : s.cfg = u.cfg
  regs : s.regs = u.regs
  stimulus : s.stimulus = u.stimulus

section
variable {s u t v : State} {i : Instr}

theorem SameBlock.pins (h : SameBlock s u) (hne : s.stimulus ≠ []) : s.pins = u.pins := by
  obtain ⟨p, l, hs⟩ := List.exists_cons_of_ne_nil hne
  rw [pins_of_stimulus hs, pins_of_stimulus (h.stimulus.symm.trans hs)]

theorem SameBlock.guards (h : SameBlock s u) : s.guards = u.guards := by
  simp [State.guards, State.mark, State.len, State.bound, State.w0, h.cfg, h.regs]

/-- An operation does the same to the same block: its row's `w` registers by what it reads, the others by its frame. -/
theorem SameBlock.exec (h : SameBlock s u) (ht : exec i s = .next t) (hv : exec i u = .next v) : SameBlock t v where
  cfg := by rw [exec_cfg ht, exec_cfg hv, h.cfg]
  regs := by
    refine Regs.eq_of_value fun n => ?_
    by_cases hn : n ∈ writesOf i
    · exact exec_congr h.cfg (fun _ _ => by rw [h.regs]) ht hv n hn
    · rw [exec_keeps ht hn, exec_keeps hv hn, h.regs]
  stimulus := by rw [exec_record ht, exec_record hv]; exact h.stimulus

theorem SameBlock.endEdge (h : SameBlock s u) (p : Pins) : SameBlock (s.endEdge p) (u.endEdge p) :=
  ⟨h.cfg, h.regs, congrArg List.tail h.stimulus⟩

/-- A step uses up one entry of the stimulus. -/
theorem step_stimulus (h : step s = .next t) : t.stimulus = s.stimulus.tail := by
  obtain ⟨-, i, w, -, hexec, rfl⟩ := step_eq_next.1 h
  rw [endEdge_stimulus, exec_record hexec]

/-- A step does the same to the same block, and delivers the same. -/
theorem SameBlock.step (h : SameBlock s u) (hne : s.stimulus ≠ []) (ht : step s = .next t) :
    ∃ v n l, step u = .next v ∧ SameBlock t v ∧ Delivers s t n l ∧ Delivers u v n l := by
  obtain ⟨hlegal, i, w, hdec, hexec, rfl⟩ := step_eq_next.1 ht
  obtain ⟨x, hexec'⟩ := exec_next i u
  have hpins := h.pins hne
  rw [State.sel, hpins, h.regs, h.guards] at hdec
  rw [h.cfg] at hlegal
  refine ⟨_, _, _, step_of_exec hlegal hdec hexec', ?_, delivers_of_exec s.pins hexec, ?_⟩
  · rw [hpins]
    exact (h.exec hexec hexec').endEdge _
  · rw [hpins, h.regs]
    exact delivers_of_exec u.pins hexec'

/-- A run of `n + 1` steps that answers a next state begins with a step that does. -/
theorem exists_step_of_run_succ {n : ℕ} (h : Host.Core.run core (n + 1) s = .next t) :
    ∃ u, step s = .next u ∧ Host.Core.run core n u = .next t := by
  rw [run_succ] at h
  cases hs : step s with
  | next u => rw [hs] at h; exact ⟨u, rfl, h⟩
  | fault r => rw [hs] at h; cases h
  | refused r => rw [hs] at h; cases h

end

/-- A run over written port levels does the same to the same block, and delivers the same. -/
theorem SameBlock.run {k : ℕ} {s u t : State} (h : SameBlock s u) (hk : k ≤ s.stimulus.length)
    (ht : Host.Core.run core k s = .next t) :
    ∃ v n l, Host.Core.run core k u = .next v ∧ SameBlock t v ∧ Delivers s t n l ∧ Delivers u v n l := by
  induction k generalizing s u with
  | zero =>
    cases (run_zero s).symm.trans ht
    exact ⟨u, 0, [], run_zero u, h, .refl _, .refl u⟩
  | succ k ih =>
    obtain ⟨x, hx, hrun⟩ := exists_step_of_run_succ ht
    obtain ⟨y, n, l, hy, hxy, hsx, huy⟩ := h.step (List.ne_nil_of_length_pos (by omega)) hx
    have hlen : k ≤ x.stimulus.length := by
      rw [step_stimulus hx, List.length_tail]
      omega
    obtain ⟨v, m, l', hv, htv, hxt, hyv⟩ := ih hxy hlen hrun
    exact ⟨v, _, _, (run_succ_of_step hy).trans hv, htv, hsx.trans hxt, huy.trans hyv⟩

/-- Settles O39: the ticks in S_EMIT and S_DISCARD clear the frame, and a run looks at the block, its configuration and the
stimulus alone. -/
theorem nothingOfAFrameOutlivesItsEvent : Obligations.NothingOfAFrameOutlivesItsEvent := by
  refine ⟨fun s c d htick => ?_, fun k s u t hcfg hregs hstim hk hrun => ?_⟩
  · obtain h | h := htick
    · exact ⟨_, h.emit.2, rfl⟩
    · exact ⟨_, h.discard.2, rfl⟩
  · obtain ⟨v, n, l, hv, hsame, hst, huv⟩ := SameBlock.run ⟨hcfg, hregs, hstim⟩ hk hrun
    exact ⟨v, l, hv, hsame.regs.symm, hsame.stimulus.symm, hst.events, huv.events⟩

end Sys2Proof.Machine

/-! ### Exceptions (spec/60_exceptions.md): what a delivered event carries, and taking a protocol error and the return -/

namespace Sys2Proof.Machine

/-! #### Delivered events (R129) -/

section
variable {c : Config}

theorem eventOk_discard {err : BitVec 3} :
    EventOk c (.discard err) ↔ err = 0b001#3 ∨ err = 0b010#3 ∨ err = 0b100#3 := Iff.rfl

theorem eventOk_emit {raw0 raw1 : Raw} {meas0 meas1 : F64} :
    EventOk c (.emit raw0 raw1 meas0 meas1) ↔ meas0 = mm c.scale raw0 ∧ meas1 = fneg (mm c.scale raw1) := Iff.rfl

end

/-- Settles O35: the invariant speaks of every event in the log; it holds of every reached state, and a step keeps it. -/
theorem deliveredEventsAreWellFormed : Obligations.DeliveredEventsAreWellFormed := by
  refine ⟨fun s x e hreach hx he => ?_, fun s t x a b m n hinv hstep hx he => ?_⟩
  · have hok := hreach.inv.events x hx
    rwa [he, eventOk_discard] at hok
  · have hok := (hinv.step hstep).events x hx
    rwa [he, eventOk_emit] at hok

/-! #### Taking a protocol error, and the return from it (R124 to R126) -/

/-- The control state in which an error is detected (R120 to R122). -/
def raisedIn : ProtocolError → BitVec 4
  | .startPulseTooShort => sSyncMeas
  | .clockGlitch => sBitSample
  | .wordLengthMismatch => sBitMeas

/-- The registers after an error is taken: its flag, DUR at most, and the control state (R124). -/
def Regs.raised (r : Regs) (e : ProtocolError) (dur : BitVec 32) : Regs :=
  { r with err := r.err ||| errCode e, dur := dur, state := sDiscard }

section
variable {s t : State} {i : Instr}

/-- An operation that ends in S_DISCARD is one of the four that take an error, in the control state of that error. -/
theorem TickSelects.raises (hsel : TickSelects s i) (h : exec i s = .next t) (ht : t.regs.state = sDiscard) :
    ∃ e dur, s.regs.state = raisedIn e ∧ t = { s with regs := s.regs.raised e dur } := by
  cases hsel <;> cases h
  case syncMeasShort hs _ _ => exact ⟨.startPulseTooShort, _, hs, rfl⟩
  case bitSampleGlitch hs _ => exact ⟨.clockGlitch, _, hs, rfl⟩
  case bitMeasBound hs _ _ _ | bitMeasBadlen hs _ _ _ => exact ⟨.wordLengthMismatch, _, hs, rfl⟩
  all_goals cases ht

/-- A tick that ends in S_DISCARD takes an error, and no event is delivered at it (R125). -/
theorem step_raises {c d : Bool} (hpins : s.pins = tickPins c d) (h : step s = .next t) (ht : t.regs.state = sDiscard) :
    ∃ e dur, s.regs.state = raisedIn e ∧ t = s.ticked (s.regs.raised e dur) := by
  obtain ⟨-, i, u, hsel, hexec, rfl⟩ := step_tickSelects hpins h
  obtain ⟨e, dur, hs, rfl⟩ := hsel.raises hexec ht
  exact ⟨e, dur, hs, by rw [hpins]; rfl⟩

/-- No error is held where one is detected (10_state.md R35, R36). -/
theorem RegsInv.err_eq_zero {c : Config} {r : Regs} {e : ProtocolError} (h : RegsInv c r) (hs : r.state = raisedIn e) :
    r.err = 0#3 := by
  cases e with
  | startPulseTooShort =>
    obtain ⟨hmeas, -⟩ := h.measuring hs
    exact (Receiving.of_measuring hmeas).err
  | clockGlitch => exact (h.receiving (.inl hs)).err
  | wordLengthMismatch => exact (h.receiving (.inr (.inr hs))).err

/-- Where no error is held, taking one leaves its flag alone in ERR. -/
theorem Regs.raised_err {r : Regs} {e : ProtocolError} {dur : BitVec 32} (h : r.err = 0#3) :
    (r.raised e dur).err = errCode e := by
  simp [Regs.raised, h]

/-- The flag of an error, with the control state it is detected in, written out. -/
theorem errCode_raisedIn (e : ProtocolError) :
    errCode e = 0b001#3 ∧ raisedIn e = sSyncMeas ∨ errCode e = 0b010#3 ∧ raisedIn e = sBitSample ∨
      errCode e = 0b100#3 ∧ raisedIn e = sBitMeas := by
  cases e <;> decide

end

/-- Settles O36: the tick takes one error where none is held, and the next tick is a tick in S_DISCARD. -/
theorem errorEntryAndReturnArePrecise : Obligations.ErrorEntryAndReturnArePrecise := by
  intro s t c d c' d' l hinv hstim hstep hdiscard
  obtain ⟨e, dur, hs, ht⟩ := step_raises (pins_of_stimulus hstim) hstep hdiscard
  have hnext : t.stimulus = tickPins c' d' :: l := by rw [step_stimulus hstep, hstim, List.tail_cons]
  have hreturn : t.tickAt sDiscard c' d' := ⟨(hinv.step hstep).legal, pins_of_stimulus hnext, hdiscard⟩
  obtain ⟨-, hclear⟩ := hreturn.discard
  refine ⟨?_, ?_, ?_⟩
  · rw [ht]
    exact ⟨rfl, rfl, rfl, rfl, rfl, rfl⟩
  · have herr : t.regs.err = errCode e := ht ▸ Regs.raised_err (hinv.regs.err_eq_zero hs)
    rw [herr, hs]
    exact errCode_raisedIn e
  · rw [hclear, State.ticked, hnext, ht]
    rfl

end Sys2Proof.Machine

/-! ### Reset and hazards (spec/70_reset_and_hazards.md): RESET, the waits, a pulse in progress that is skipped, and whole
frames -/

namespace Sys2Proof.Machine

/-! #### RESET and the waits (R141, R143, R154) -/

/-- Settles O2: `rst` is looked at before anything else, and an edge with `rst = 1` is no tick. -/
theorem resetWinsFromEveryState : Obligations.ResetWinsFromEveryState := by
  intro s hlegal hrst
  have hdec := decode_of_rst hrst
  refine ⟨hdec, ?_, rfl⟩
  rw [step_of_exec hlegal hdec rfl]
  simp [State.endEdge, State.frameClear, hrst]

/-- Settles O40: each of the three states is held by its clock level, tick after tick. -/
theorem waitsAreUnbounded : Obligations.WaitsAreUnbounded := by
  rintro s ds l hlegal (⟨hstate, hstim⟩ | ⟨hstate | hstate, hstim⟩)
  · exact run_of_waitsAt ds hlegal (hstate.symm ▸ WaitsAt.syncArm) hstim
  · exact run_of_waitsAt ds hlegal (hstate.symm ▸ WaitsAt.syncWait) hstim
  · exact run_of_waitsAt ds hlegal (hstate.symm ▸ WaitsAt.bitWait) hstim

/-! #### A pulse in progress is skipped (R144, R152, R157) -/

section
variable {s : State} {r : Regs} {n : ℕ} {highs : List Bool} {c d c' d' : Bool} {l : List Pins} {log : List Emission}

/-- From the reset state, any number of high ticks and then a low one: the block waits for its next pulse, and has measured
nothing (R144). -/
theorem run_of_skipped_pulse (hlegal : s.cfg.legal = true) (hregs : s.regs = Regs.reset)
    (hstim : s.stimulus = highs.map (tickPins true) ++ tickPins false d :: l) :
    Host.Core.run core (highs.length + 1) s =
      .next (s.ranTicks (highs.length + 1) { Regs.reset with state := sSyncWait } l) := by
  have hstate : s.regs.state = sSyncArm := congrArg Regs.state hregs
  have hwaited := run_of_waitsAt highs hlegal (hstate.symm ▸ WaitsAt.syncArm) hstim
  rw [hregs] at hwaited
  exact run_ranTicks_tick hwaited (tickAt_ranTicks hlegal).syncArmGo.2 rfl

/-- The same after a run whose last tick delivered an event and cleared the frame. -/
theorem run_of_event_then_skipped_pulse (hlegal : s.cfg.legal = true)
    (h : Host.Core.run core n s = .next { s.ranTicks n Regs.reset (highs.map (tickPins true) ++ tickPins false d :: l) with
      events := log }) :
    Host.Core.run core (n + (highs.length + 1)) s = .next { s.ranTicks (n + (highs.length + 1))
      { Regs.reset with state := sSyncWait } l with events := log } := by
  rw [run_add_of_run h, run_of_skipped_pulse (by exact hlegal) rfl rfl]
  simp [State.ranTicks, Nat.add_assoc]

/-- R106: the tick in S_CONVERT computes both measurements, at any line levels. -/
theorem State.tickAt.convert (h : s.tickAt sConvert c d) :
    decode s.sel s.guards = .ok .convert ∧
      step s = .next (s.ticked { s.regs with meas0 := mm s.cfg.scale s.regs.raw0,
                                             meas1 := fneg (mm s.cfg.scale s.regs.raw1), state := sEmit }) := by
  obtain ⟨-, hconvert⟩ := convertComputesBothMeasurements
  exact hconvert s c d h

/-- The two blind ticks after a good frame: CONVERT, then EMIT, whatever the line levels (R152). -/
theorem run_of_convert_emit (hlegal : s.cfg.legal = true) (hstate : s.regs.state = sConvert)
    (hstim : s.stimulus = tickPins c d :: tickPins c' d' :: l) :
    Host.Core.run core 2 s = .next { s.ranTicks 2 Regs.reset l with
      events := s.events ++ [⟨s.tickNo + 1, .emit s.regs.raw0 s.regs.raw1 (mm s.cfg.scale s.regs.raw0)
        (fneg (mm s.cfg.scale s.regs.raw1))⟩] } := by
  have hconvert := (tickAt_of_stimulus hlegal hstate hstim).convert.2
  have hconverted := run_of_step_ticked hstim hconvert (run_zero _)
  exact run_ranTicks_step hconverted (tickAt_ranTicks hlegal).emit.2

/-- R91: a high clock at the sampling instant takes ClockGlitch. -/
theorem State.tickAt.bitSampleGlitch (h : s.tickAt sBitSample true d) :
    decode s.sel s.guards = .ok .bitSampleGlitch ∧
      step s = .next (s.ticked { s.regs with err := s.regs.err ||| 0b010#3, state := sDiscard }) := by
  obtain ⟨-, -, -, -, -, hglitch, -⟩ := errorOperationsRaiseTheirFlag
  exact hglitch s d h

/-- A ClockGlitch and its report at the next tick, whatever the line levels then (R157). -/
theorem run_of_glitch_discard (hlegal : s.cfg.legal = true) (hstate : s.regs.state = sBitSample) (herr : s.regs.err = 0#3)
    (hstim : s.stimulus = tickPins true d :: tickPins c' d' :: l) :
    Host.Core.run core 2 s = .next { s.ranTicks 2 Regs.reset l with
      events := s.events ++ [⟨s.tickNo + 1, .discard 0b010#3⟩] } := by
  have hglitch := (tickAt_of_stimulus hlegal hstate hstim).bitSampleGlitch.2
  rw [herr] at hglitch
  have hraised := run_of_step_ticked hstim hglitch (run_zero _)
  exact run_ranTicks_step hraised (tickAt_ranTicks hlegal).discard.2

end

/-- Settles O42: S_SYNC_ARM holds while the clock is high and goes on at the first low tick. -/
theorem afterResetAPulseInProgressIsSkipped : Obligations.AfterResetAPulseInProgressIsSkipped := by
  refine ⟨fun s c d hregs hpins => ?_, fun s ds d l => run_of_skipped_pulse⟩
  have hstate : s.regs.state = sSyncArm := congrArg Regs.state hregs
  have hclk : s.pins.clkIn = c := congrArg Pins.clkIn hpins
  cases c with
  | true => exact decode_of_tickSelects hpins (.syncArmHold hstate hclk)
  | false => exact decode_of_tickSelects hpins (.syncArmGo hstate hclk)

/-- Settles O50: CONVERT and EMIT leave the reset state, from which a pulse in progress is skipped. -/
theorem blindTicksAfterAGoodFrame : Obligations.BlindTicksAfterAGoodFrame := by
  intro s c d c' d' highs e l hlegal hstate hstim
  rw [show highs.length + 3 = 2 + (highs.length + 1) by omega]
  exact run_of_event_then_skipped_pulse hlegal (run_of_convert_emit hlegal hstate hstim)

/-- Settles O51: the report of the glitch leaves the reset state, from which the pulse in progress is skipped. -/
theorem pulseAfterAGlitchIsSkipped : Obligations.PulseAfterAGlitchIsSkipped := by
  intro s d c' d' highs e l hlegal hstate herr hstim
  rw [show highs.length + 3 = 2 + (highs.length + 1) by omega]
  exact run_of_event_then_skipped_pulse hlegal (run_of_glitch_discard hlegal hstate herr hstim)

/-! #### Whole frames (R159, R160) -/

section
variable {s : State} {g m : List Bool} {w0 w1 : List Cell} {v0 v1 : Raw} {d : Bool} {l : List Pins}

/-- From the reset state, at least one low tick, a start marker and the low tick that ends it: the block is ready to sample
bit 0 of word 0. -/
theorem run_of_start_marker (hlegal : s.cfg.legal = true) (hregs : s.regs = Regs.reset) (hg : g ≠ [])
    (hm : s.cfg.threshold ≤ m.length)
    (hstim : s.stimulus = g.map (tickPins false) ++ (m.map (tickPins true) ++ tickPins false d :: l)) :
    Host.Core.run core (g.length + m.length + 1) s =
      .next (s.ranTicks (g.length + m.length + 1) { Regs.reset with state := sBitSample } l) := by
  obtain ⟨first, lows, rfl⟩ := List.exists_cons_of_ne_nil hg
  have hmarker : m ≠ [] :=
    List.ne_nil_of_length_pos (by have := Config.threshold_of_legal hlegal; omega)
  have harmed := run_of_skipped_pulse (highs := []) hlegal hregs hstim
  obtain ⟨-, haccept, -⟩ := synchroniserClassifiesEveryPulse
    (s.ranTicks 1 { Regs.reset with state := sSyncWait } (lows.map (tickPins false) ++ (m.map (tickPins true) ++
      tickPins false d :: l))) lows m d l hlegal rfl hmarker rfl
  have hcount : (first :: lows).length + m.length + 1 = 1 + (lows.length + m.length + 1) := by
    rw [List.length_cons]
    omega
  rw [hcount]
  exact run_ranTicks_trans harmed (haccept hm)

/-- The ticks of a well-framed word begin with a low tick, at which the marker before it ends. -/
theorem WireWord.exists_cellTicks_eq {c : Config} {w : List Cell} {v : Raw} (h : WireWord c w v) :
    ∃ d, cellTicks w = tickPins false d :: (cellTicks w).tail := by
  obtain ⟨init, last, rfl, -⟩ := h.eq_append
  exact cellTicks_append_singleton init last

/-- From the reset state up to the low tick that ends the marker of word 1: both words are stored, and nothing else is. -/
theorem run_of_frame (hlegal : s.cfg.legal = true) (hregs : s.regs = Regs.reset) (hg : g ≠ [])
    (hm : s.cfg.threshold ≤ m.length) (hw0 : WireWord s.cfg w0 v0) (hw1 : WireWord s.cfg w1 v1)
    (hstim : s.stimulus = g.map (tickPins false) ++ (m.map (tickPins true) ++ (cellTicks w0 ++ (cellTicks w1 ++
      tickPins false d :: l)))) :
    let n := g.length + m.length + 1 + (cellTicks w0).length + (cellTicks w1).length
    Host.Core.run core n s = .next (s.ranTicks n
      { Regs.reset with state := sConvert, widx := 1#1, raw0 := v0, raw1 := v1 } l) := by
  obtain ⟨d0, hlead0⟩ := hw0.exists_cellTicks_eq
  obtain ⟨d1, hlead1⟩ := hw1.exists_cellTicks_eq
  rw [hlead0, hlead1] at hstim
  have hstarted := run_of_start_marker hlegal hregs hg hm hstim
  have hword0 := wellFramedWordIsReceived (s.ranTicks (g.length + m.length + 1) { Regs.reset with state := sBitSample }
    ((cellTicks w0).tail ++ tickPins false d1 :: ((cellTicks w1).tail ++ tickPins false d :: l))) w0 v0 d1 _ hlegal
    rfl rfl rfl rfl hw0 rfl
  have hreceived0 := run_ranTicks_trans hstarted hword0
  have hword1 := wellFramedWordIsReceived (s.ranTicks (g.length + m.length + 1 + (cellTicks w0).length)
    { Regs.reset with state := sBitSample, widx := 1#1, raw0 := v0 } ((cellTicks w1).tail ++ tickPins false d :: l)) w1 v1
    d l hlegal rfl rfl rfl rfl hw1 rfl
  exact run_ranTicks_trans hreceived0 hword1

end

/-- Settles O47: the frame is received, and the two blind ticks convert it and deliver its event. -/
theorem wellFormedFramesAreDecoded : Obligations.WellFormedFramesAreDecoded := by
  intro s g m w0 w1 v0 v1 d c' d' c'' d'' l hlegal hregs hg hm hw0 hw1 hstim n
  have hreceived := run_of_frame hlegal hregs hg hm hw0 hw1 hstim
  have hn : n = g.length + m.length + 1 + (cellTicks w0).length + (cellTicks w1).length + 2 := by omega
  have hlast : s.tickNo + n - 1 =
      s.tickNo + (g.length + m.length + 1 + (cellTicks w0).length + (cellTicks w1).length) + 1 := by omega
  rw [hlast, hn, run_add_of_run hreceived, run_of_convert_emit (by exact hlegal) rfl rfl, hregs]
  rfl

/-! #### The uniform frame as cells (R159) -/

/-- `WORD(v; lo, hi, mk)` as cells (R78). -/
def wordCells (v lo hi mk : ℕ) : List Cell := uniformCells v 23 lo hi ++ [uniformCell (v.testBit 23) lo mk]

section
variable {v lo hi mk : ℕ}

theorem stimulusOf_word (hlo : 2 ≤ lo) : stimulusOf (word v lo hi mk) = cellTicks (wordCells v lo hi mk) :=
  stimulusOf_wordN_succ hlo

theorem length_cellTicks_wordCells (hlo : 2 ≤ lo) :
    (cellTicks (wordCells v lo hi mk)).length = 24 * lo + 23 * hi + mk := by
  rw [← stimulusOf_word hlo, stimulusOf, List.length_map, length_word]

/-- The cells of WORD are a well-framed word on the wire. -/
theorem wireWord_wordCells {c : Config} (v : Raw) (hhi : 1 ≤ hi) (hbelow : hi < c.threshold) (hmk : c.threshold ≤ mk) :
    WireWord c (wordCells v.toNat lo hi mk) v where
  count := by simp [wordCells, uniformCells]
  bits := cellsCarry_uniformCells v.toNat 23 lo hi mk
  shorts := fun k _ hk => by simp [wordCells, uniformCells, uniformCell, Cell.short, hk, hhi, hbelow]
  closing := fun _ => by simp [wordCells, uniformCells, uniformCell, Cell.marker, hmk]

end

theorem stimulusOf_idle (n : ℕ) : stimulusOf (idle n) = (List.replicate n false).map (tickPins false) := by
  simp [stimulusOf, idle, Symbol.pins]

theorem stimulusOf_markPulse (n : ℕ) : stimulusOf (markPulse n) = (List.replicate n false).map (tickPins true) := by
  simp [stimulusOf, markPulse, Symbol.pins]

/-- `IDLE(g) FRAME(v0, v1; lo, hi, mk) IDLE(3)` as idle ticks, a start marker, two words in cells and three low ticks. -/
theorem stimulusOf_idle_frame_idle {g v0 v1 lo hi mk : ℕ} (hlo : 2 ≤ lo) :
    stimulusOf (idle g ++ frame v0 v1 lo hi mk ++ idle 3) =
      (List.replicate g false).map (tickPins false) ++ ((List.replicate mk false).map (tickPins true) ++
        (cellTicks (wordCells v0 lo hi mk) ++ (cellTicks (wordCells v1 lo hi mk) ++
          [tickPins false false, tickPins false false, tickPins false false]))) := by
  rw [← stimulusOf_idle, ← stimulusOf_markPulse, ← stimulusOf_word hlo, ← stimulusOf_word hlo]
  simp [stimulusOf, frame, idle, Symbol.pins]

/-- Settles O49: the uniform frame is a well-formed one, and its length counts the ticks up to the event. -/
theorem uniformFrameEventTick : Obligations.UniformFrameEventTick := by
  intro s g lo hi mk v0 v1 l hlegal hregs htick hg hlo hhi hbelow hmk hstim e
  have hword (v : Raw) : WireWord s.cfg (wordCells v.toNat lo hi mk) v := wireWord_wordCells v hhi hbelow hmk
  rw [stimulusOf_idle_frame_idle hlo] at hstim
  have hdecoded := wellFormedFramesAreDecoded s (List.replicate g false) (List.replicate mk false)
    (wordCells v0.toNat lo hi mk) (wordCells v1.toNat lo hi mk) v0 v1 false false false false false l hlegal hregs
    (List.ne_nil_of_length_pos (by rw [List.length_replicate]; exact hg)) (by rw [List.length_replicate]; exact hmk)
    (hword v0) (hword v1) (by rw [hstim]; simp only [List.append_assoc]; rfl)
  have hn : (List.replicate g false).length + (List.replicate mk false).length +
      (cellTicks (wordCells v0.toNat lo hi mk)).length + (cellTicks (wordCells v1.toNat lo hi mk)).length + 3 = e + 4 := by
    rw [List.length_replicate, List.length_replicate, length_cellTicks_wordCells hlo, length_cellTicks_wordCells hlo]
    omega
  simp only [hn, htick, Nat.zero_add] at hdecoded
  exact hdecoded

end Sys2Proof.Machine
